-- ==== Sys2Proof/Word.lean ====
section
/-! DEFINITION. Word and byte types, the numbers of slots, channels and handles, and the four-fold record used for
everything the part has one of per slot or per channel. -/

namespace Sys2Proof

/-- A 32-bit word of the system port (00, Key characteristics). -/
abbrev Word := BitVec 32

/-- One byte. -/
abbrev Byte := BitVec 8

/-- A slot number, 0 to 3. -/
abbrev SlotId := Fin 4

/-- A channel number, 0 to 3. -/
abbrev ChannelId := Fin 4

/-- An entry's handle, 0 to 31 (R40). -/
abbrev Handle := Fin 32

/-- Four like things, one per slot or per channel. -/
structure Quad (α : Type) where
  at0 : α
  at1 : α
  at2 : α
  at3 : α
deriving DecidableEq, Repr

/-- The thing of slot or channel `i`. -/
def Quad.get {α : Type} (q : Quad α) (i : Fin 4) : α :=
  match i.val with
  | 0 => q.at0
  | 1 => q.at1
  | 2 => q.at2
  | _ => q.at3

/-- The four with the thing of `i` replaced. -/
def Quad.set {α : Type} (q : Quad α) (i : Fin 4) (x : α) : Quad α :=
  match i.val with
  | 0 => { q with at0 := x }
  | 1 => { q with at1 := x }
  | 2 => { q with at2 := x }
  | _ => { q with at3 := x }

/-- The same thing four times. -/
def Quad.all {α : Type} (x : α) : Quad α := ⟨x, x, x, x⟩

/-- A function applied to each of the four. -/
def Quad.map {α β : Type} (f : α → β) (q : Quad α) : Quad β := ⟨f q.at0, f q.at1, f q.at2, f q.at3⟩

/-- The four slot or channel numbers in ascending order. -/
def fourIds : List (Fin 4) := [0, 1, 2, 3]

/-- The 32 handles in ascending order. -/
def handles : List Handle := List.finRange 32

end Sys2Proof
end

