-- ==== Sys2Proof/Syntax.lean ====
section
/-! DEFINITION. The commands of the block: one constructor of `Instr` for each row of spec/opcode_table.json, with the
operands the event of that row carries. -/

namespace Sys2Proof

/-- A supply class (00, Terms). OFF is not a class: it has a row of its own, SUPPLY_OFF. -/
inductive SupplyClass where
  | v1v8
  | v3v3
  | v5v0
deriving DecidableEq, Repr

/-- One of a slot's two presence contacts (01, 1.2). -/
inductive Contact where
  | a
  | b
deriving DecidableEq, Repr

/-- The levels of both presence contacts of a slot; true is closed. -/
structure Contacts where
  a : Bool
  b : Bool
deriving DecidableEq, Repr

/-- The size of a system access: 1, 2 or 4 bytes. -/
inductive Size where
  | one
  | two
  | four
deriving DecidableEq, Repr

/-- The direction of an access at the target side of the system port. -/
inductive Direction where
  | read
  | write
deriving DecidableEq, Repr

/-- An access as the system port receives it (05, 5.1). `data` is the 32 data lines: the byte at system address a
travels on lane a modulo 4. A read does not use them. -/
structure Access where
  direction : Direction
  address : Word
  size : Size
  data : Word
deriving DecidableEq, Repr

/-- The input lines of one slot that some step reads by their level; true is asserted. -/
structure SlotLines where
  powerGood : Bool
  overcurrent : Bool
  ready : Bool
  alert : Bool
  request : Bool
  widthSense : Bool
deriving DecidableEq, Repr

/-- The levels of all four slots' lines as they stand at one event (log 4). -/
abbrev Lines := Quad SlotLines

/-- Every line deasserted. -/
def Lines.quiet : Lines := Quad.all ⟨false, false, false, false, false, false⟩

/-- The interconnect's answer to a memory access of the master side (R105). The data of a read is given by address: its
low byte is the byte at the lower address. The code of an ERROR is not kept. -/
inductive MemoryAnswer where
  | ok (data : BitVec 16)
  | retry
  | error
deriving DecidableEq, Repr

/-- The setting words of a channel (10.1). -/
inductive SettingWord where
  | control
  | memoryAddress
  | displacement
  | count
deriving DecidableEq, Repr

/-- The five words of a group of event, enable or force words (10.7): one per slot, and one for table and channels. -/
inductive EventGroup where
  | slot (slot : SlotId)
  | system
deriving DecidableEq, Repr

/-- A command: one constructor per row of spec/opcode_table.json, in the table's order. -/
inductive Instr where
  /-- POWER_ON_RESET: the straps and the contacts as observed at the release of reset (R1, R38, R90). -/
  | powerOnReset (straps : Fin 16) (contacts : Quad Contacts)
  /-- SOFT_RESET (R174). -/
  | softReset
  /-- CHANNEL_CLEAR (R158). -/
  | channelClear (lines : Lines)
  /-- PRESENCE_CHANGE: the named contact changes its level (R3). -/
  | presenceChange (slot : SlotId) (contact : Contact)
  /-- SETTLE_EXPIRY (R6). -/
  | settleExpiry (slot : SlotId)
  /-- PROBE_LOW_SAMPLE: K1 and K2 with the probe line low; true is 1 (R10). -/
  | probeLowSample (slot : SlotId) (k1 k2 : Bool)
  /-- IDENTIFICATION_ROUND_END: K1 and K2 with the probe line high (R10, R11). -/
  | identificationRoundEnd (slot : SlotId) (k1 k2 : Bool)
  /-- SUPPLY naming 1V8, 3V3 or 5V0 (R22). -/
  | supply (slot : SlotId) (supplyClass : SupplyClass) (lines : Lines)
  /-- SUPPLY_OFF (R24). -/
  | supplyOff (slot : SlotId)
  /-- PROBE (R18). -/
  | probe (slot : SlotId)
  /-- BAD_REQUEST: a slot request word with an unused code or class (R17). -/
  | badRequest (slot : SlotId) (value : Word)
  /-- SLOT_CONFIGURATION_WRITE (R19). -/
  | slotConfigurationWrite (slot : SlotId) (value : Word)
  /-- TIMING_PROFILES_WRITE (R19). -/
  | timingProfilesWrite (slot : SlotId) (value : Word)
  /-- POWER_GOOD_ASSERTION (R25). -/
  | powerGoodAssertion (slot : SlotId)
  /-- POWER_GOOD_LIMIT_EXPIRY (R26). -/
  | powerGoodLimitExpiry (slot : SlotId)
  /-- RESET_PULSE_EXPIRY: reads the levels of ready and alert (R27, R28, R35). -/
  | resetPulseExpiry (slot : SlotId) (lines : Lines)
  /-- READY_ASSERTION: reads the level of alert at a session start (R28, R35). -/
  | readyAssertion (slot : SlotId) (lines : Lines)
  /-- READY_LIMIT_EXPIRY (R29). -/
  | readyLimitExpiry (slot : SlotId)
  /-- OVERCURRENT (R30). -/
  | overcurrent (slot : SlotId)
  /-- POWER_GOOD_LOSS (R31). -/
  | powerGoodLoss (slot : SlotId)
  /-- ALERT_LINE_CHANGE: the new level (R35, R160). -/
  | alertLineChange (slot : SlotId) (asserted : Bool)
  /-- CHANGE_LINE_EDGE: rising or falling (R35, R161). -/
  | changeLineEdge (slot : SlotId) (rising : Bool)
  /-- COMMAND_ACCEPTANCE: a write of the command word (R64, R65). -/
  | commandAcceptance (value : Word)
  /-- COMMAND_STATUS_WRITE (R65). -/
  | commandStatusWrite (value : Word)
  /-- CREATE completion (R70). -/
  | create
  /-- ACTIVATE completion (R73). -/
  | activate
  /-- AMEND completion (R75). -/
  | amend
  /-- RETIRE completion (R78). -/
  | retire
  /-- REBIND completion (R81). -/
  | rebind
  /-- QUERY completion (R83). -/
  | query
  /-- FIND completion (R85). -/
  | find
  /-- SWEEP completion (R87). -/
  | sweep
  /-- UNUSED_COMMAND: completion of a command with an unused code (R64). -/
  | unusedCommand
  /-- RETIRED_HANDLE_SET_WRITE (R60). -/
  | retiredHandleSetWrite (value : Word)
  /-- APERTURE_WRITE (R98). -/
  | apertureWrite (address : Word) (size : Size) (data : Word) (lines : Lines)
  /-- APERTURE_READ (R99). -/
  | apertureRead (address : Word) (size : Size) (lines : Lines)
  /-- UNCLAIMED_ACCESS (R91). -/
  | unclaimedAccess (access : Access) (lines : Lines)
  /-- CONTROL_WINDOW_MISALIGNED (R92). -/
  | controlWindowMisaligned (access : Access) (lines : Lines)
  /-- APERTURE_SPACE_BASE_WRITE (R93). -/
  | apertureSpaceBaseWrite (value : Word)
  /-- PORT_STATUS_WRITE (R93). -/
  | portStatusWrite (value : Word)
  /-- COLLECTION_LIMIT_WRITE (R119). -/
  | collectionLimitWrite (value : Word)
  /-- DISCARDED_WRITE_COUNT_WRITE (R113). -/
  | discardedWriteCountWrite (slot : SlotId) (value : Word)
  /-- ACCESS_COMPLETION (R134). -/
  | accessCompletion (slot : SlotId) (lines : Lines)
  /-- WAIT_TIMEOUT (R133). -/
  | waitTimeout (slot : SlotId) (lines : Lines)
  /-- COLLECTION_TIMER_EXPIRY (R120). -/
  | collectionTimerExpiry (slot : SlotId)
  /-- CONFIGURE (R144). -/
  | configure (channel : ChannelId)
  /-- ARM (R145). -/
  | arm (channel : ChannelId) (lines : Lines)
  /-- START (R146). -/
  | start (channel : ChannelId) (lines : Lines)
  /-- PAUSE (R147). -/
  | pause (channel : ChannelId)
  /-- RESUME (R148). -/
  | resume (channel : ChannelId) (lines : Lines)
  /-- CANCEL (R149). -/
  | cancel (channel : ChannelId)
  /-- UNMASK (R150). -/
  | unmask (channel : ChannelId) (lines : Lines)
  /-- CHANNEL_BAD_REQUEST: a channel request word with an unused code (R143). -/
  | channelBadRequest (channel : ChannelId) (value : Word)
  /-- CHANNEL_SETTING_WRITE (R176). -/
  | channelSettingWrite (channel : ChannelId) (word : SettingWord) (value : Word)
  /-- TRANSFER_REQUEST_ASSERTION (R151). -/
  | transferRequestAssertion (slot : SlotId) (lines : Lines)
  /-- MEMORY_ANSWER (R105). -/
  | memoryAnswer (channel : ChannelId) (answer : MemoryAnswer) (lines : Lines)
  /-- EVENT_WORD_READ (R164). -/
  | eventWordRead (group : EventGroup)
  /-- EVENT_WORD_WRITE (R165). -/
  | eventWordWrite (group : EventGroup) (value : Word)
  /-- ENABLE_WORD_WRITE (R162). -/
  | enableWordWrite (group : EventGroup) (value : Word)
  /-- FORCE_WORD_WRITE (R163). -/
  | forceWordWrite (group : EventGroup) (value : Word)
  /-- EVENT_CONTROL_WRITE (R166). -/
  | eventControlWrite (value : Word)
  /-- FAULT_RELEASE (R171). -/
  | faultRelease (value : Word)
  /-- PULSE_END (R168). -/
  | pulseEnd
  /-- GAP_END (R168). -/
  | gapEnd
  /-- CONTROL_WINDOW_WRITE: a 4-byte write at a byte offset of the window (R92). -/
  | controlWindowWrite (offset : BitVec 12) (value : Word) (lines : Lines)
  /-- WAIT_SAMPLE: the wait line and the 16 data lines at the end of a strobe period (R132). -/
  | waitSample (slot : SlotId) (waiting : Bool) (dataLines : BitVec 16)
  /-- MODULE_CYCLE_END: the end of a cycle that is not the last of its access (R130, R133). -/
  | moduleCycleEnd (slot : SlotId)
deriving DecidableEq, Repr

end Sys2Proof
end

