-- ==== Sys2Proof/Decode.lean ====
section
/-! DEFINITION. The command that a word of the opcode table spells. The table gives none of its 67 rows bits, so no word
spells a command. -/

namespace Sys2Proof

/-- The command that a word of the table's bits spells: none (log 17). -/
def decodeTableWord (_nbits _w : Nat) : Option Instr := none

end Sys2Proof
end

