-- ==== Sys2Proof/Config.lean ====
section
/-! DEFINITION. What the spec fixes once for the part: the intervals of its timers, the sizes of its address spaces and
the place of its control window. The spec leaves no value open, so there is no free value here. Intervals are in
nanoseconds. -/

namespace Sys2Proof.Config

/-- The settle interval, 20 ms (R4). -/
def settleInterval : Nat := 20000000

/-- The power-good limit, 100 ms (R25). -/
def powerGoodLimit : Nat := 100000000

/-- The reset pulse, 1 ms (R27). -/
def resetPulse : Nat := 1000000

/-- One step of the ready limit, 10 ms (R19). -/
def readyStep : Nat := 10000000

/-- One step of the wait limit, 1 us (R19). -/
def waitStep : Nat := 1000

/-- One step of the collection limit, 1 ms (R119). -/
def collectionStep : Nat := 1000000

/-- The interrupt pulse, 0.2 us (R168). -/
def pulseInterval : Nat := 200

/-- The gap after an interrupt pulse, 0.2 us (R168). -/
def gapInterval : Nat := 200

/-- Bytes of a granule (00, Terms). -/
def granuleBytes : Nat := 4096

/-- Granules of aperture space (R43). -/
def granules : Nat := 65536

/-- Bytes of aperture space, 256 MiB (R43). -/
def apertureBytes : Nat := 268435456

/-- Bytes of the MAIN or the DESCRIPTOR space, 2^26 (R42). -/
def wideSpaceBytes : Nat := 67108864

/-- Bytes of the PORT space, 2^16 (R42). -/
def portSpaceBytes : Nat := 65536

/-- The lowest position of the control window (R91). -/
def windowBase : Nat := 4293918720

/-- The distance of two positions of the control window (R91). -/
def windowStride : Nat := 65536

/-- Bytes of the control window (R91). -/
def windowBytes : Nat := 4096

/-- The size of a write queue (R108). -/
def queueSize : Nat := 8

/-- The greatest value of a discarded-write count (R113). -/
def discardedMax : Nat := 65535

/-- The greatest number of pulses owed (R168). -/
def pulsesMax : Nat := 255

/-- The retry count at which a further RETRY fails a memory half (R105). -/
def retryMax : Nat := 256

end Sys2Proof.Config
end

