-- ==== Sys2Proof/Machine/State.lean ====
section
/-! DEFINITION. The state of the F410 as plain data: every item that the state tables of the spec's chapters name, the
queue of commands waiting, and the state right after power-on reset. -/

namespace Sys2Proof.Machine

/-! ## Slot controller (01, 02) -/

/-- The ten slot states (01, 1.1; 02, 2.1). -/
inductive SlotState where
  | empty
  | settling
  | misseated
  | probing
  | unrecognized
  | identified
  | powering
  | resetting
  | active
  | faulted
deriving DecidableEq, Repr

/-- The kind of a recognized module (R12). -/
inductive Kind where
  | memory
  | function
deriving DecidableEq, Repr

/-- The last request result of a slot (R17). -/
inductive SlotResult where
  | none
  | ok
  | noModule
  | wrongState
  | badSupply
  | badRequest
deriving DecidableEq, Repr

/-- The fault kinds (02, 2.5). Absent is the absence of a value. -/
inductive FaultKind where
  | noPowerGood
  | noReady
  | overcurrent
  | powerLost
deriving DecidableEq, Repr

/-- The removal policy (R19). -/
inductive RemovalPolicy where
  | keep
  | release
deriving DecidableEq, Repr

/-- Which of a slot controller's timers runs (10.5, timer running). -/
inductive TimerKind where
  | settle
  | powerGoodLimit
  | resetPulse
  | readyLimit
deriving DecidableEq, Repr

/-- A slot controller's timers: at most one runs (10.5). A running timer holds the interval it was started on, in
nanoseconds (log 3). -/
inductive SlotTimer where
  | stopped
  | running (kind : TimerKind) (interval : Nat)
deriving DecidableEq, Repr

/-- A timing profile in module clock periods (R19). -/
structure Profile where
  setup : Nat
  strobe : Nat
  hold : Nat
deriving DecidableEq, Repr

/-- The slot configuration (R19): the ready limit in steps of 10 ms, the wait limit in steps of 1 us. -/
structure SlotConfig where
  policy : RemovalPolicy
  readyLimit : Nat
  waitLimit : Nat
  profiles : Quad Profile
deriving DecidableEq, Repr

/-- The identity record (R15). -/
structure Identity where
  present : Bool
  recognized : Bool
  code : Nat
  kind : Option Kind
  supplySet : Option (List SupplyClass)
  epoch : BitVec 16
deriving DecidableEq, Repr

/-- Probing progress (R10, R11): the round in progress, the codes of the completed rounds, oldest first, and the samples
of K1 and K2 taken low in this round once they are taken. -/
structure Probing where
  round : Nat
  codes : List Nat
  lowSample : Option (Bool × Bool)
deriving DecidableEq, Repr

/-- A slot controller (01, 1.1; 02, 2.1). The switch class is absent when it is OFF. -/
structure SlotController where
  state : SlotState
  contacts : Contacts
  timer : SlotTimer
  probing : Option Probing
  probeHigh : Bool
  identity : Identity
  lastResult : SlotResult
  badSupply : Bool
  faultKind : Option FaultKind
  switchClass : Option SupplyClass
  resetAsserted : Bool
  config : SlotConfig
deriving DecidableEq, Repr

/-- The causes of a session end (R36). -/
inductive EndCause where
  | removal
  | powerOff
  | powerFault
  | softReset
deriving DecidableEq, Repr

/-- A session end and what it carries (R36). -/
structure SessionEnd where
  slot : SlotId
  cause : EndCause
  epoch : BitVec 16
deriving DecidableEq, Repr

/-! ## Table controller (03, 04) -/

/-- The entry states (03, 3.3). -/
inductive EntryState where
  | free
  | staged
  | live
  | fenced
  | orphaned
deriving DecidableEq, Repr

/-- The module address spaces (R40). -/
inductive Space where
  | main
  | descriptor
  | port
deriving DecidableEq, Repr

/-- The width of an entry (R40). -/
inductive Width where
  | byte
  | word
  | sensed
deriving DecidableEq, Repr

/-- The access of an entry (R40). -/
inductive EntryAccess where
  | readWrite
  | readOnly
deriving DecidableEq, Repr

/-- An entry record (R40). Its handle is its index in the table. -/
structure Entry where
  state : EntryState
  slot : SlotId
  space : Space
  firstGranule : Nat
  granuleCount : Nat
  moduleOffset : Nat
  width : Width
  timingClass : Fin 4
  access : EntryAccess
  cookie : Option Word
  boundEpoch : Option (BitVec 16)
  inFlight : Nat
  used : Bool
deriving DecidableEq, Repr

/-- The values of a FREE entry (R41). -/
def Entry.free : Entry :=
  { state := .free, slot := 0, space := .main, firstGranule := 0, granuleCount := 0, moduleOffset := 0,
    width := .byte, timingClass := 0, access := .readWrite, cookie := none, boundEpoch := none, inFlight := 0,
    used := false }

/-- The aperture table (R40). -/
abbrev Table := Vector Entry 32

/-- The result codes of the command port (R69). -/
inductive ResultCode where
  | none
  | pending
  | ok
  | wrongState
  | handleInUse
  | badRange
  | overlap
  | portTooLong
  | badField
  | noSession
  | wrongKind
  | channelBound
  | notFound
deriving DecidableEq, Repr

/-- A command in execution: the code written and the argument words captured at its acceptance (R64). -/
structure Executing where
  code : BitVec 4
  args : Quad Word
deriving DecidableEq, Repr

/-- The command port (04, 4.1). The port is BUSY exactly while a command is in execution (R64). -/
structure CommandPort where
  args : Quad Word
  executing : Option Executing
  lastAccepted : Option (BitVec 4)
  resultCode : ResultCode
  results : Quad Word
  overrun : Bool
deriving DecidableEq, Repr

/-! ## System port (05) -/

/-- The target side of the system port (R90). -/
structure Port where
  location : Fin 16
  region : Fin 16
  enable : Bool
  configRefused : Bool
deriving DecidableEq, Repr

/-- The error codes of an answer (R89). -/
inductive ErrorCode where
  | unclaimed
  | align
  | unmapped
  | notLive
  | fenced
  | orphaned
  | writeProtected
  | timeout
deriving DecidableEq, Repr

/-- An answer of the system port (R89). The data of a read is given as bytes with the number of the data lane each is on;
a lane that the access does not name carries nothing (log 6). -/
inductive Answer where
  | ok
  | okData (lanes : List (Nat × Byte))
  | retry
  | error (code : ErrorCode)
deriving DecidableEq, Repr

/-- A memory access in progress at the master side (05, 5.6). -/
structure MemoryAccess where
  address : Word
  size : Size
  direction : Direction
  data : BitVec 16
  retries : Nat
deriving DecidableEq, Repr

/-! ## Posting unit (06) -/

/-- Where an accepted access or a channel's module half goes: the captured translation (R101, R152). -/
structure Target where
  handle : Handle
  space : Space
  moduleAddress : Nat
  width : Width
  timingClass : Fin 4
  size : Size
deriving DecidableEq, Repr

/-- An item of a write queue (R108). The data holds the byte for the lowest address in its low byte. -/
structure QueueItem where
  target : Target
  systemAddress : Word
  data : Word
deriving DecidableEq, Repr

/-- The states of a held read (R114). The code of FAILED is always TIMEOUT. -/
inductive HeldState where
  | waiting (ahead : Nat)
  | issued
  | ready (data : Word)
  | failed
deriving DecidableEq, Repr

/-- A held read (R114). -/
structure HeldRead where
  target : Target
  systemAddress : Word
  state : HeldState
deriving DecidableEq, Repr

/-- A posting unit (06, 6.1). The read holder is EMPTY when it is absent; a running collection timer holds the interval
it was started on, in nanoseconds. -/
structure PostingUnit where
  queue : List QueueItem
  headInProgress : Bool
  holder : Option HeldRead
  collectionTimer : Option Nat
  discarded : Nat
deriving DecidableEq, Repr

/-! ## Module access sequencer (07) -/

/-- The source named by a sequencer's preference (R127). -/
inductive Preference where
  | system
  | channel
deriving DecidableEq, Repr

/-- The phases of a module cycle (R130). -/
inductive Phase where
  | setup
  | strobe
  | hold
deriving DecidableEq, Repr

/-- A module cycle of a cycle plan (R102): its address, whether it is a word cycle, and the index of its first byte in
the access. -/
structure Cycle where
  address : Nat
  isWord : Bool
  firstByte : Nat
deriving DecidableEq, Repr

/-- Who offered the access in progress (R126). -/
inductive AccessSource where
  | headWrite
  | heldRead
  | channelHalf (channel : ChannelId)
deriving DecidableEq, Repr

/-- An access in progress (07, 7.1): its source, direction and target, its write data or the read bytes sampled so far,
its cycle plan, the cycle in progress, the phase of that cycle and the module clock periods left in it, and the profile
values and the wait limit (in nanoseconds) read at its beginning. -/
structure BusAccess where
  source : AccessSource
  direction : Direction
  target : Target
  data : Word
  plan : List Cycle
  index : Nat
  phase : Phase
  periods : Nat
  profile : Profile
  waitLimit : Nat
deriving DecidableEq, Repr

/-- A module access sequencer (07, 7.1). -/
structure Sequencer where
  access : Option BusAccess
  preference : Preference
  waitTimer : Option Nat
  partialMark : Bool
deriving DecidableEq, Repr

/-! ## Transfer unit (08) -/

/-- The channel states (08, 8.2). -/
inductive ChannelState where
  | idle
  | armed
  | running
  | paused
  | done
  | aborted
deriving DecidableEq, Repr

/-- The direction of a channel (R140). -/
inductive ChannelDirection where
  | toMemory
  | fromMemory
deriving DecidableEq, Repr

/-- The mode of a channel (R140). -/
inductive Mode where
  | unit
  | demand
  | block
deriving DecidableEq, Repr

/-- The unit size of a channel (R140). -/
inductive UnitSize where
  | one
  | two
deriving DecidableEq, Repr

/-- The memory step of a channel (R140). -/
inductive MemoryStep where
  | up
  | down
deriving DecidableEq, Repr

/-- The module step of a channel (R140). -/
inductive ModuleStep where
  | fixed
  | up
deriving DecidableEq, Repr

/-- A PAUSE or CANCEL waiting for the unit in progress to end (R140). -/
inductive StopPending where
  | none
  | pause
  | cancel
deriving DecidableEq, Repr

/-- The state a RESUME returns to (R140). -/
inductive ResumeState where
  | armed
  | running
deriving DecidableEq, Repr

/-- The abort causes (R154, R155). -/
inductive AbortCause where
  | sessionEnd
  | moduleTimeout
  | memoryError
  | memoryBusy
deriving DecidableEq, Repr

/-- The last request result of a channel (R140). -/
inductive ChannelResult where
  | none
  | ok
  | wrongState
  | notBound
  | notLive
  | wrongKind
  | writeProtected
  | badRequest
deriving DecidableEq, Repr

/-- The half a unit in progress is in (R140). -/
inductive Half where
  | memoryHalf
  | moduleHalf
deriving DecidableEq, Repr

/-- A unit in progress (R152): its half, its translation, the memory address it read at its start, the data handed from
its first half to its second, and whether the sequencer has begun its module half (R129). -/
structure UnitInProgress where
  half : Half
  target : Target
  memoryAddress : Word
  data : BitVec 16
  moduleBegun : Bool
deriving DecidableEq, Repr

/-- A channel record (R140). `recordHandle` is the handle that bits 4:0 of the record's configuration word show: the one the
last accepted CONFIGURE stored, which the word keeps when the binding is lost (R176, R177). -/
structure Channel where
  state : ChannelState
  bound : Option Handle
  direction : ChannelDirection
  mode : Mode
  unitSize : UnitSize
  baseAddress : Word
  currentAddress : Word
  memoryStep : MemoryStep
  baseDisplacement : Nat
  currentDisplacement : Nat
  moduleStep : ModuleStep
  baseCount : Nat
  currentCount : Nat
  reload : Bool
  mask : Bool
  stopPending : StopPending
  resumeState : Option ResumeState
  unitDue : Bool
  unit : Option UnitInProgress
  abortCause : Option AbortCause
  lastResult : ChannelResult
  recordHandle : Handle
deriving DecidableEq, Repr

/-- The setting words of a channel, each with the positions of its layout (R140, 10.6). -/
structure ChannelSettings where
  control : Word
  memoryAddress : Word
  displacement : Word
  count : Word
deriving DecidableEq, Repr

/-! ## Event unit (09) -/

/-- Five words of event flags or of enables (10.7). -/
structure EventWords where
  slots : Quad Word
  system : Word
deriving DecidableEq, Repr

/-- The clear mode (R164, R165). -/
inductive ClearMode where
  | readClears
  | writeOneClears
deriving DecidableEq, Repr

/-- The interrupt mode (R167, R168). -/
inductive InterruptMode where
  | level
  | pulse
deriving DecidableEq, Repr

/-- The pulse phase (R168); IN_PULSE and IN_GAP hold the interval they were started on, in nanoseconds (log 3). -/
inductive PulsePhase where
  | idle
  | inPulse (interval : Nat)
  | inGap (interval : Nat)
deriving DecidableEq, Repr

/-- The kinds of an access fault (09, 9.5). -/
inductive AccessFaultKind where
  | unmapped
  | notLive
  | fenced
  | orphaned
  | writeProtected
  | timeout
  | discardedRead
deriving DecidableEq, Repr

/-- The fields an offer to the access fault record carries (09, 9.5). -/
structure FaultOffer where
  kind : AccessFaultKind
  direction : Direction
  address : Word
  size : Size
  handle : Option Handle
  slot : Option SlotId
  cookie : Option Word
  partialMark : Bool
deriving DecidableEq, Repr

/-- The access fault record (09, 9.5). -/
structure FaultRecord where
  valid : Bool
  more : Bool
  fields : FaultOffer
deriving DecidableEq, Repr

/-- The event unit (09, 9.1). -/
structure EventUnit where
  flags : EventWords
  enables : EventWords
  clearMode : ClearMode
  interruptMode : InterruptMode
  output : Bool
  pulsesOwed : Nat
  pulsePhase : PulsePhase
  alertSources : Quad Bool
  fault : FaultRecord
deriving DecidableEq, Repr

/-! ## The whole part -/

/-- Why the machine could stop with a fault. The spec gives every command an effect in every state, so there is no
reason: the type has no constructor, and no command can raise one (safe). -/
inductive Fault where
deriving DecidableEq, Repr

/-- Why the machine could decline a command. -/
inductive Refusal where
  /-- Raised by an arm of `exec` whose command has no meaning in this model; every command has one, so no arm raises it
  (safe). -/
  | notModelled (mnemonic : String)
deriving DecidableEq, Repr



/-- The state of the F410 and the queue of commands that wait for it. -/
structure State where
  port : Port
  table : Table
  retired : Word
  command : CommandPort
  slots : Quad SlotController
  posting : Quad PostingUnit
  collectionLimit : Nat
  sequencers : Quad Sequencer
  memory : Quad (Option MemoryAccess)
  channels : Quad Channel
  settings : Quad ChannelSettings
  events : EventUnit
  answer : Option Answer
  pending : List Instr
deriving DecidableEq, Repr

/-! ## Values after power-on reset -/

/-- The profile values after power-on reset (R19). -/
def Profile.initial : Profile := { setup := 1, strobe := 4, hold := 1 }

/-- The slot configuration after power-on reset (R19). -/
def SlotConfig.initial : SlotConfig :=
  { policy := .keep, readyLimit := 50, waitLimit := 32, profiles := Quad.all Profile.initial }

/-- The identity record after power-on reset (R1). -/
def Identity.initial : Identity :=
  { present := false, recognized := false, code := 0, kind := none, supplySet := none, epoch := 0 }

/-- A slot controller after power-on reset with the contacts as observed (R1, R38). -/
def SlotController.initial (contacts : Contacts) : SlotController :=
  { state := if contacts.a || contacts.b then .settling else .empty
    contacts := contacts
    timer := if contacts.a || contacts.b then .running .settle Config.settleInterval else .stopped
    probing := none, probeHigh := true, identity := Identity.initial, lastResult := .none, badSupply := false
    faultKind := none, switchClass := none, resetAsserted := true, config := SlotConfig.initial }

/-- The command port after either reset (R63). -/
def CommandPort.initial : CommandPort :=
  { args := Quad.all 0, executing := none, lastAccepted := none, resultCode := .none, results := Quad.all 0,
    overrun := false }

/-- A posting unit after either reset (R107, R124). -/
def PostingUnit.initial : PostingUnit :=
  { queue := [], headInProgress := false, holder := none, collectionTimer := none, discarded := 0 }

/-- A sequencer after either reset (R125). -/
def Sequencer.initial : Sequencer :=
  { access := none, preference := .system, waitTimer := none, partialMark := false }

/-- A channel record after either reset or a channel clear (R141). -/
def Channel.initial : Channel :=
  { state := .idle, bound := none, direction := .toMemory, mode := .unit, unitSize := .one, baseAddress := 0,
    currentAddress := 0, memoryStep := .up, baseDisplacement := 0, currentDisplacement := 0, moduleStep := .fixed,
    baseCount := 0, currentCount := 0, reload := false, mask := true, stopPending := .none, resumeState := none,
    unitDue := false, unit := none, abortCause := none, lastResult := .none, recordHandle := 0 }

/-- The setting words of a channel after either reset or a channel clear (R141). -/
def ChannelSettings.initial : ChannelSettings :=
  { control := 0, memoryAddress := 0, displacement := 0, count := 0 }

/-- Five words of zeros. -/
def EventWords.clear : EventWords := { slots := Quad.all 0, system := 0 }

/-- The access fault record after either reset (09, 9.5). -/
def FaultRecord.initial : FaultRecord :=
  { valid := false, more := false
    fields := { kind := .unmapped, direction := .read, address := 0, size := .one, handle := none, slot := none,
                cookie := none, partialMark := false } }

/-- The event unit after either reset (R172, R173). -/
def EventUnit.initial : EventUnit :=
  { flags := EventWords.clear, enables := EventWords.clear, clearMode := .readClears, interruptMode := .level,
    output := false, pulsesOwed := 0, pulsePhase := .idle, alertSources := Quad.all false,
    fault := FaultRecord.initial }

/-- The aperture table after either reset (R62). -/
def Table.initial : Table := Vector.replicate 32 Entry.free

/-- The part after a power-on reset at whose release the straps and the contacts are as given (R1, R38, R62, R63, R90,
R107, R125, R141, R172). -/
def State.powerOn (straps : Fin 16) (contacts : Quad Contacts) : State :=
  { port := { location := straps, region := 0, enable := false, configRefused := false }
    table := Table.initial
    retired := 0
    command := CommandPort.initial
    slots := contacts.map SlotController.initial
    posting := Quad.all PostingUnit.initial
    collectionLimit := 4
    sequencers := Quad.all Sequencer.initial
    memory := Quad.all none
    channels := Quad.all Channel.initial
    settings := Quad.all ChannelSettings.initial
    events := EventUnit.initial
    answer := none
    pending := [] }

/-- The part right after power-on reset, with the straps at 0 and every connector empty (log 5). -/
def State.reset : State := State.powerOn 0 (Quad.all { a := false, b := false })

end Sys2Proof.Machine
end

