-- ==== Sys2Proof/Machine/Operands.lean ====
section
/-! DEFINITION. Operand forms: bit fields of words, the encodings of chapter 10, the layouts of the words software writes
and reads, bytes by address and on lanes, and the arithmetic of ranges, translation and cycle plans. -/

namespace Sys2Proof

/-- The number of bytes of an access size. -/
def Size.bytes : Size → Nat
  | .one => 1
  | .two => 2
  | .four => 4

end Sys2Proof

namespace Sys2Proof.Machine

/-! ## Bit fields -/

/-- The field of a word at bits `hi` down to `lo`, as a number. -/
def bits (w : Word) (hi lo : Nat) : Nat := w.toNat / 2 ^ lo % 2 ^ (hi + 1 - lo)

/-- A word made of fields, each with its lowest bit, its number of bits and its value. -/
def pack (fields : List (Nat × Nat × Nat)) : Word :=
  BitVec.ofNat 32 ((fields.map (fun f => f.2.2 % 2 ^ f.2.1 * 2 ^ f.1)).sum)

/-- A one-bit field's value. -/
def flagBit (b : Bool) : Nat := if b then 1 else 0

/-- The word whose one position `i` is 1. -/
def positionMark (i : Nat) : Word := BitVec.twoPow 32 i

/-- How many positions of a word are 1. -/
def ones (w : Word) : Nat := (List.range 32).countP (fun i => w.getLsbD i)

/-! ## Bytes -/

/-- The byte at index `i` of a word, the least significant first (00, Byte order). -/
def byteAt (w : Word) (i : Nat) : Byte := BitVec.ofNat 8 (w.toNat / 256 ^ i)

/-- The word of the given bytes, the least significant first, zero above them. -/
def wordOfBytes (bytes : List Byte) : Word :=
  BitVec.ofNat 32 (bytes.foldr (fun b rest => b.toNat + 256 * rest) 0)

/-- The word with its byte at index `i` replaced. -/
def setByte (w : Word) (i : Nat) (b : Byte) : Word :=
  wordOfBytes ((List.range 4).map (fun j => if j = i then b else byteAt w j))

/-- The data lane of byte `i` of an access: the byte at system address a travels on lane a modulo 4 (05, 5.1). -/
def laneOf (address : Word) (i : Nat) : Nat := (address.toNat + i) % 4

/-- The bytes a write carries, taken from the lanes by their addresses (05, 5.1). -/
def bytesFromLanes (address : Word) (size : Size) (lanes : Word) : Word :=
  wordOfBytes ((List.range size.bytes).map (fun i => byteAt lanes (laneOf address i)))

/-- The bytes a read answers, each with its lane (05, 5.1). -/
def lanesOfBytes (address : Word) (size : Size) (data : Word) : List (Nat × Byte) :=
  (List.range size.bytes).map (fun i => (laneOf address i, byteAt data i))

/-! ## Codes of chapter 10 -/

/-- The slot state code (10.5). -/
def SlotState.code : SlotState → Nat
  | .empty => 0
  | .settling => 1
  | .misseated => 2
  | .probing => 3
  | .unrecognized => 4
  | .identified => 5
  | .powering => 6
  | .resetting => 7
  | .active => 8
  | .faulted => 9

/-- The entry state code (10.4). -/
def EntryState.code : EntryState → Nat
  | .free => 0
  | .staged => 1
  | .live => 2
  | .fenced => 3
  | .orphaned => 4

/-- The space code (10.4). -/
def Space.code : Space → Nat
  | .main => 0
  | .descriptor => 1
  | .port => 2

/-- The space of a code; 3 is unused (10.4). -/
def Space.ofCode : Nat → Option Space
  | 0 => some .main
  | 1 => some .descriptor
  | 2 => some .port
  | _ => none

/-- The width code (10.4). -/
def Width.code : Width → Nat
  | .byte => 0
  | .word => 1
  | .sensed => 2

/-- The width of a code; 3 is unused (10.4). -/
def Width.ofCode : Nat → Option Width
  | 0 => some .byte
  | 1 => some .word
  | 2 => some .sensed
  | _ => none

/-- The access code (10.4). -/
def EntryAccess.code : EntryAccess → Nat
  | .readWrite => 0
  | .readOnly => 1

/-- The access of a code; 2 and 3 are unused (10.4). -/
def EntryAccess.ofCode : Nat → Option EntryAccess
  | 0 => some .readWrite
  | 1 => some .readOnly
  | _ => none

/-- The cookie operation of an AMEND (04, 4.4). -/
inductive CookieOp where
  | keep
  | set
  | remove
deriving DecidableEq, Repr

/-- The cookie operation of a code; 3 is unused (10.4). -/
def CookieOp.ofCode : Nat → Option CookieOp
  | 0 => some .keep
  | 1 => some .set
  | 2 => some .remove
  | _ => none

/-- The result code of the command port as the status word shows it (10.4). -/
def ResultCode.code : ResultCode → Nat
  | .none => 0
  | .pending => 1
  | .ok => 2
  | .wrongState => 3
  | .handleInUse => 4
  | .badRange => 5
  | .overlap => 6
  | .portTooLong => 7
  | .badField => 8
  | .noSession => 9
  | .wrongKind => 10
  | .channelBound => 11
  | .notFound => 12

/-- The switch class code; OFF is 0 (10.5). -/
def switchCode : Option SupplyClass → Nat
  | none => 0
  | some .v1v8 => 1
  | some .v3v3 => 2
  | some .v5v0 => 3

/-- The fault kind code (10.5). -/
def faultKindCode : Option FaultKind → Nat
  | none => 0
  | some .noPowerGood => 1
  | some .noReady => 2
  | some .overcurrent => 3
  | some .powerLost => 4

/-- The code of the timer running (10.5). -/
def SlotTimer.code : SlotTimer → Nat
  | .stopped => 0
  | .running .settle _ => 1
  | .running .powerGoodLimit _ => 2
  | .running .resetPulse _ => 3
  | .running .readyLimit _ => 4

/-- The kind code of the identity word (10.5). -/
def kindCode : Option Kind → Nat
  | none => 0
  | some .memory => 1
  | some .function => 2

/-- The last request result code of a slot (10.5). -/
def SlotResult.code : SlotResult → Nat
  | .none => 0
  | .ok => 1
  | .noModule => 2
  | .wrongState => 3
  | .badSupply => 4
  | .badRequest => 5

/-- The holder state code (10.5). -/
def holderCode : Option HeldRead → Nat
  | none => 0
  | some r =>
    match r.state with
    | .waiting _ => 1
    | .issued => 2
    | .ready _ => 3
    | .failed => 4

/-- The channel state code (10.6). -/
def ChannelState.code : ChannelState → Nat
  | .idle => 0
  | .armed => 1
  | .running => 2
  | .paused => 3
  | .done => 4
  | .aborted => 5

/-- The abort cause code (10.6). -/
def abortCauseCode : Option AbortCause → Nat
  | none => 0
  | some .sessionEnd => 1
  | some .moduleTimeout => 2
  | some .memoryError => 3
  | some .memoryBusy => 4

/-- The stop pending code (10.6). -/
def StopPending.code : StopPending → Nat
  | .none => 0
  | .pause => 1
  | .cancel => 2

/-- The resume state code (10.6). -/
def resumeCode : Option ResumeState → Nat
  | none => 0
  | some .armed => 1
  | some .running => 2

/-- The unit in progress code (10.6). -/
def unitCode : Option UnitInProgress → Nat
  | none => 0
  | some u =>
    match u.half with
    | .memoryHalf => 1
    | .moduleHalf => 2

/-- The last request result code of a channel (10.6). -/
def ChannelResult.code : ChannelResult → Nat
  | .none => 0
  | .ok => 1
  | .wrongState => 2
  | .notBound => 3
  | .notLive => 4
  | .wrongKind => 5
  | .writeProtected => 6
  | .badRequest => 7

/-- The mode code (10.6). -/
def Mode.code : Mode → Nat
  | .unit => 0
  | .demand => 1
  | .block => 2

/-- The mode of a code; 3 is unused (10.6). -/
def Mode.ofCode : Nat → Option Mode
  | 0 => some .unit
  | 1 => some .demand
  | 2 => some .block
  | _ => none

/-- The fault kind code of the fault status word (10.7). -/
def AccessFaultKind.code : AccessFaultKind → Nat
  | .unmapped => 0
  | .notLive => 1
  | .fenced => 2
  | .orphaned => 3
  | .writeProtected => 4
  | .timeout => 5
  | .discardedRead => 6

/-- The size code of the fault status word (10.7). -/
def sizeCode : Size → Nat
  | .one => 0
  | .two => 1
  | .four => 2

/-- The optional handle's number, 0 when absent (10.6, 10.7). -/
def handleOrZero : Option Handle → Nat
  | none => 0
  | some h => h.val

/-! ## Words software writes -/

/-- The requests of a slot request word (10.5). -/
inductive SlotRequest where
  | supply (supplyClass : SupplyClass)
  | supplyOff
  | probe
  | unused
deriving DecidableEq, Repr

/-- The request a slot request word carries: bits 3:0 the code, bits 10:8 the class (10.5). -/
def slotRequestOf (value : Word) : SlotRequest :=
  match bits value 3 0 with
  | 1 =>
    match bits value 10 8 with
    | 0 => .supplyOff
    | 1 => .supply .v1v8
    | 2 => .supply .v3v3
    | 3 => .supply .v5v0
    | _ => .unused
  | 2 => .probe
  | _ => .unused

/-- The requests of a channel request word (10.6). -/
inductive ChannelRequest where
  | configure
  | arm
  | start
  | pause
  | resume
  | cancel
  | unmask
  | unused
deriving DecidableEq, Repr

/-- The request a channel request word carries in bits 3:0 (10.6). -/
def channelRequestOf (value : Word) : ChannelRequest :=
  match bits value 3 0 with
  | 1 => .configure
  | 2 => .arm
  | 3 => .start
  | 4 => .pause
  | 5 => .resume
  | 6 => .cancel
  | 7 => .unmask
  | _ => .unused

/-- A count field of which 0 is stored as 1 (R19, R119). -/
def atLeastOne (n : Nat) : Nat := if n = 0 then 1 else n

/-- The timing profile `p` of a timing profiles word; a strobe of 0 is stored as 1 (R19, 10.5). -/
def profileOf (value : Word) (p : Nat) : Profile :=
  { setup := bits value (8 * p + 1) (8 * p)
    strobe := atLeastOne (bits value (8 * p + 5) (8 * p + 2))
    hold := bits value (8 * p + 7) (8 * p + 6) }

/-- A number below 4 as an index. -/
def quarter (n : Nat) : Fin 4 := ⟨n % 4, Nat.mod_lt n (by decide)⟩

/-- A handle field's handle. -/
def handleOf (n : Nat) : Handle := ⟨n % 32, Nat.mod_lt n (by decide)⟩

/-- The arguments of CREATE (10.4). A field that may carry an unused encoding is absent when it does. -/
structure CreateArgs where
  handle : Handle
  slot : SlotId
  space : Option Space
  width : Option Width
  timingClass : Fin 4
  access : Option EntryAccess
  firstGranule : Nat
  granuleCount : Nat
  moduleOffset : Nat
  cookie : Option Word
deriving DecidableEq, Repr

/-- The arguments of CREATE from the captured argument words (10.4). -/
def createArgs (args : Quad Word) : CreateArgs :=
  { handle := handleOf (bits args.at0 4 0)
    slot := quarter (bits args.at0 6 5)
    space := Space.ofCode (bits args.at0 9 8)
    width := Width.ofCode (bits args.at0 11 10)
    timingClass := quarter (bits args.at0 13 12)
    access := EntryAccess.ofCode (bits args.at0 15 14)
    firstGranule := bits args.at0 31 16
    granuleCount := bits args.at1 16 0
    moduleOffset := bits args.at2 25 0
    cookie := if args.at1.getLsbD 31 then some args.at3 else none }

/-- The arguments of AMEND (10.4). -/
structure AmendArgs where
  handle : Handle
  selectOffset : Bool
  selectWidth : Bool
  selectTiming : Bool
  selectAccess : Bool
  cookieOp : Option CookieOp
  width : Option Width
  timingClass : Fin 4
  access : Option EntryAccess
  moduleOffset : Nat
  cookie : Word
deriving DecidableEq, Repr

/-- The arguments of AMEND from the captured argument words (10.4). -/
def amendArgs (args : Quad Word) : AmendArgs :=
  { handle := handleOf (bits args.at0 4 0)
    selectOffset := args.at0.getLsbD 8
    selectWidth := args.at0.getLsbD 9
    selectTiming := args.at0.getLsbD 10
    selectAccess := args.at0.getLsbD 11
    cookieOp := CookieOp.ofCode (bits args.at0 13 12)
    width := Width.ofCode (bits args.at0 17 16)
    timingClass := quarter (bits args.at0 21 20)
    access := EntryAccess.ofCode (bits args.at0 25 24)
    moduleOffset := bits args.at2 25 0
    cookie := args.at3 }

/-- The handle argument of ACTIVATE, RETIRE, REBIND and QUERY (10.4). -/
def argHandle (args : Quad Word) : Handle := handleOf (bits args.at0 4 0)

/-! ## Named positions of words that store what is written -/

/-- The named positions of a channel's control word: 4:0, 5, 8, 10:9, 11 to 14 (10.6). -/
def controlPositions : Word := 0x7F3F

/-- The value a setting word stores: the written value in the named positions (R176, 10.6). -/
def settingValue (word : SettingWord) (value : Word) : Word :=
  match word with
  | .control => value &&& controlPositions
  | .memoryAddress => value
  | .displacement => value &&& 0x0FFFFFFF
  | .count => value &&& 0xFFFF

/-! ## Layouts of a channel's configuration word (10.6) -/

/-- The binding a control word names: none, or the handle of bits 4:0. -/
def controlBound (control : Word) : Option Handle :=
  if control.getLsbD 5 then some (handleOf (bits control 4 0)) else none

/-- The direction a control word names. -/
def controlDirection (control : Word) : ChannelDirection :=
  if control.getLsbD 8 then .fromMemory else .toMemory

/-- The mode a control word names; absent for the unused encoding. -/
def controlMode (control : Word) : Option Mode := Mode.ofCode (bits control 10 9)

/-- The unit size a control word names. -/
def controlUnitSize (control : Word) : UnitSize := if control.getLsbD 11 then .two else .one

/-- The memory step a control word names. -/
def controlMemoryStep (control : Word) : MemoryStep := if control.getLsbD 12 then .down else .up

/-- The module step a control word names. -/
def controlModuleStep (control : Word) : ModuleStep := if control.getLsbD 13 then .up else .fixed

/-- Whether a control word asks for reload. -/
def controlReload (control : Word) : Bool := control.getLsbD 14

/-! ## Sizes -/

/-- The bytes of a unit. -/
def UnitSize.bytes : UnitSize → Nat
  | .one => 1
  | .two => 2

/-- A unit's size as an access size. -/
def UnitSize.toSize : UnitSize → Size
  | .one => .one
  | .two => .two

/-- The bytes of a module address space (R42). -/
def Space.bytes : Space → Nat
  | .main => Config.wideSpaceBytes
  | .descriptor => Config.wideSpaceBytes
  | .port => Config.portSpaceBytes

/-! ## Ranges, translation and cycle plans -/

/-- The module address of an offset within an entry's aperture (R42). -/
def Entry.translate (e : Entry) (offset : Nat) : Nat := (offset + e.moduleOffset) % e.space.bytes

/-- The length in bytes of an entry's aperture (R42). -/
def Entry.length (e : Entry) : Nat := Config.granuleBytes * e.granuleCount

/-- Whether an entry that is not FREE covers a granule (R43, R61). -/
def Entry.covers (e : Entry) (granule : Nat) : Bool :=
  e.state != .free && (e.firstGranule ≤ granule && granule < e.firstGranule + e.granuleCount)

/-- Whether two ranges share a granule: each begins below the other's end (R71). -/
def rangesShare (first1 count1 first2 count2 : Nat) : Bool :=
  first1 < first2 + count2 && first2 < first1 + count1

/-- Whether the width decision is word cycles (R102). -/
def wordCycles (target : Target) (widthSense : Bool) : Bool :=
  target.moduleAddress % 2 == 0 &&
    match target.width with
    | .byte => false
    | .word => true
    | .sensed => widthSense

/-- The cycle at byte `i` of an access: its address wraps at the top of the module space (R102). -/
def cycleAt (target : Target) (isWord : Bool) (i : Nat) : Cycle :=
  { address := (target.moduleAddress + i) % target.space.bytes, isWord := isWord, firstByte := i }

/-- The cycle plan of an access (R102). -/
def cyclePlan (target : Target) (widthSense : Bool) : List Cycle :=
  match target.size, wordCycles target widthSense with
  | .one, _ => [cycleAt target false 0]
  | .two, true => [cycleAt target true 0]
  | .two, false => [cycleAt target false 0, cycleAt target false 1]
  | .four, true => [cycleAt target true 0, cycleAt target true 2]
  | .four, false => [cycleAt target false 0, cycleAt target false 1, cycleAt target false 2, cycleAt target false 3]

/-- The byte on the lower lane of the 16 data lines (R131). -/
def lowerLane (lines : BitVec 16) : Byte := lines.extractLsb' 0 8

/-- The byte on the upper lane of the 16 data lines (R131). -/
def upperLane (lines : BitVec 16) : Byte := lines.extractLsb' 8 8

/-- The read data of an access with the bytes that a cycle samples put at their places (R103, R131). -/
def sampleBytes (data : Word) (cycle : Cycle) (lines : BitVec 16) : Word :=
  if cycle.isWord then
    setByte (setByte data cycle.firstByte (lowerLane lines)) (cycle.firstByte + 1) (upperLane lines)
  else if cycle.address % 2 = 0 then setByte data cycle.firstByte (lowerLane lines)
  else setByte data cycle.firstByte (upperLane lines)

/-- The 16 data lines of a write cycle; a lane not enabled carries the same byte (R103, R131). -/
def writeLines (data : Word) (cycle : Cycle) : BitVec 16 :=
  if cycle.isWord then byteAt data (cycle.firstByte + 1) ++ byteAt data cycle.firstByte
  else byteAt data cycle.firstByte ++ byteAt data cycle.firstByte

/-- The address at which a memory half is issued: even for a unit of 2 bytes (R104). -/
def memoryIssueAddress (size : UnitSize) (address : Word) : Word :=
  match size with
  | .one => address
  | .two => address &&& 0xFFFFFFFE

/-! ## Identification (R10 to R13) -/

/-- The code of a round from its four samples (R10). -/
def roundCode (k1Low k2Low k1High k2High : Bool) : Nat :=
  8 * flagBit k1Low + 4 * flagBit k2Low + 2 * flagBit k1High + flagBit k2High

/-- The kind and the supply set of a probe code; absent for an unrecognized code (R12). -/
def probeTable : Nat → Option (Kind × List SupplyClass)
  | 1 => some (.memory, [.v5v0])
  | 2 => some (.memory, [.v3v3])
  | 3 => some (.memory, [.v3v3, .v5v0])
  | 4 => some (.function, [.v5v0])
  | 5 => some (.function, [.v3v3])
  | 6 => some (.function, [.v3v3, .v5v0])
  | 7 => some (.function, [.v1v8])
  | 8 => some (.function, [.v1v8, .v3v3])
  | 9 => some (.memory, [.v1v8])
  | 10 => some (.memory, [.v1v8, .v3v3])
  | _ => none

/-- The epoch after a recognized identification: it does not pass through 0 (R13, R16). -/
def nextEpoch (epoch : BitVec 16) : BitVec 16 := if epoch = 0xFFFF then 1 else epoch + 1

end Sys2Proof.Machine
end

