-- ==== Sys2Proof/Machine/Flags.lean ====
section
/-! DEFINITION. The event unit's computations: the flags and their positions, raising, clearing, enabling and forcing
them, the interrupt output and its pulses, and the access fault record (09). -/

namespace Sys2Proof.Machine

/-! ## Flags and their positions (10.7) -/

/-- An event flag: the word it is in and its position there (10.7). -/
structure Flag where
  group : EventGroup
  position : Nat
deriving DecidableEq, Repr

/-- PRESENCE of a slot. -/
def Flag.presence (s : SlotId) : Flag := ⟨.slot s, 0⟩
/-- IDENTIFIED of a slot. -/
def Flag.identified (s : SlotId) : Flag := ⟨.slot s, 1⟩
/-- SESSION_UP of a slot. -/
def Flag.sessionUp (s : SlotId) : Flag := ⟨.slot s, 2⟩
/-- SESSION_DOWN of a slot. -/
def Flag.sessionDown (s : SlotId) : Flag := ⟨.slot s, 3⟩
/-- FAULT of a slot. -/
def Flag.fault (s : SlotId) : Flag := ⟨.slot s, 4⟩
/-- BAD_SUPPLY of a slot. -/
def Flag.badSupply (s : SlotId) : Flag := ⟨.slot s, 5⟩
/-- ALERT of a slot. -/
def Flag.alert (s : SlotId) : Flag := ⟨.slot s, 6⟩
/-- CHANGE of a slot. -/
def Flag.change (s : SlotId) : Flag := ⟨.slot s, 7⟩
/-- DATA_LOST of a slot. -/
def Flag.dataLost (s : SlotId) : Flag := ⟨.slot s, 8⟩
/-- READ_DISCARDED of a slot. -/
def Flag.readDiscarded (s : SlotId) : Flag := ⟨.slot s, 9⟩
/-- COMMAND_DONE. -/
def Flag.commandDone : Flag := ⟨.system, 0⟩
/-- RETIRED. -/
def Flag.retired : Flag := ⟨.system, 1⟩
/-- ACCESS_FAULT. -/
def Flag.accessFault : Flag := ⟨.system, 2⟩
/-- CHANNEL_DONE of a channel. -/
def Flag.channelDone (c : ChannelId) : Flag := ⟨.system, 8 + c.val⟩
/-- CHANNEL_ABORT of a channel. -/
def Flag.channelAbort (c : ChannelId) : Flag := ⟨.system, 12 + c.val⟩

/-- The positions of a word of event flags, enables or force marks that a flag has (10.7). -/
def flagPositions : EventGroup → Word
  | .slot _ => 0x3FF
  | .system => 0xFF07

/-- The word of a group. -/
def EventWords.get (w : EventWords) : EventGroup → Word
  | .slot s => w.slots.get s
  | .system => w.system

/-- The words with the word of a group replaced. -/
def EventWords.set (w : EventWords) (g : EventGroup) (v : Word) : EventWords :=
  match g with
  | .slot s => { w with slots := w.slots.set s v }
  | .system => { w with system := v }

/-- Whether a flag is set. -/
def EventUnit.isSet (u : EventUnit) (f : Flag) : Bool := (u.flags.get f.group).getLsbD f.position

/-- Whether a flag is enabled. -/
def EventUnit.isEnabled (u : EventUnit) (f : Flag) : Bool := (u.enables.get f.group).getLsbD f.position

/-! ## Raising and forcing -/

/-- Pulses owed after `n` more are owed: at most 255; none more leaves them as they are (R168). -/
def owe (owed n : Nat) : Nat := if n = 0 then owed else min Config.pulsesMax (owed + n)

/-- The event unit after the flags of one word that are marked are raised: each that was clear and is enabled owes a
pulse in PULSE mode (R159, R163, R168). -/
def EventUnit.raiseMarks (u : EventUnit) (g : EventGroup) (marks : Word) : EventUnit :=
  let old := u.flags.get g
  let new := old ||| (marks &&& flagPositions g)
  { u with
    flags := u.flags.set g new
    pulsesOwed :=
      match u.interruptMode with
      | .level => u.pulsesOwed
      | .pulse => owe u.pulsesOwed (ones (new &&& ~~~old &&& u.enables.get g)) }

/-- The event unit after an event sets its flag (R159). -/
def EventUnit.raise (u : EventUnit) (f : Flag) : EventUnit := u.raiseMarks f.group (positionMark f.position)

/-! ## The interrupt output -/

/-- Whether some flag and its enable are both set (R167). -/
def EventUnit.anyEnabled (u : EventUnit) : Bool :=
  (u.flags.slots.at0 &&& u.enables.slots.at0) != 0 || (u.flags.slots.at1 &&& u.enables.slots.at1) != 0 ||
    (u.flags.slots.at2 &&& u.enables.slots.at2) != 0 || (u.flags.slots.at3 &&& u.enables.slots.at3) != 0 ||
    (u.flags.system &&& u.enables.system) != 0

/-- The end of an event at the interrupt output: in LEVEL mode the output follows the flags and enables (R167); in PULSE
mode a pulse begins if the event leaves pulses owed above 0 with the phase IDLE (R168; log 11). -/
def EventUnit.settle (u : EventUnit) : EventUnit :=
  match u.interruptMode, u.pulsePhase with
  | .level, _ => { u with output := u.anyEnabled }
  | .pulse, .idle =>
    if u.pulsesOwed = 0 then { u with output := false }
    else { u with output := true, pulsesOwed := u.pulsesOwed - 1, pulsePhase := .inPulse Config.pulseInterval }
  | .pulse, .inPulse _ => { u with output := true }
  | .pulse, .inGap _ => { u with output := false }

/-- The end of a pulse: the output deasserts and a gap begins (R168). -/
def EventUnit.endPulse (u : EventUnit) : EventUnit :=
  match u.pulsePhase with
  | .inPulse _ => { u with output := false, pulsePhase := .inGap Config.gapInterval }
  | _ => u

/-- The end of a gap: a further pulse begins if one is owed, otherwise the phase becomes IDLE (R168). -/
def EventUnit.endGap (u : EventUnit) : EventUnit :=
  match u.pulsePhase with
  | .inGap _ => { u with pulsePhase := .idle }.settle
  | _ => u

/-! ## Clearing, enabling, modes -/

/-- The marked flags of a word that a clear clears: all but an ALERT flag whose source is asserted (R160). -/
def EventUnit.clearable (u : EventUnit) (g : EventGroup) (marks : Word) : Word :=
  match g with
  | .slot s => if u.alertSources.get s then marks &&& ~~~positionMark (Flag.alert s).position else marks
  | .system => marks

/-- The event unit after a clear of the marked flags of one word (R160, R164, R165). -/
def EventUnit.clearMarks (u : EventUnit) (g : EventGroup) (marks : Word) : EventUnit :=
  { u with flags := u.flags.set g (u.flags.get g &&& ~~~u.clearable g marks) }

/-- A read of an event word: in READ_CLEARS mode it clears what it returned set (R164, R165). -/
def EventUnit.readWord (u : EventUnit) (g : EventGroup) : EventUnit :=
  match u.clearMode with
  | .readClears => (u.clearMarks g (u.flags.get g)).settle
  | .writeOneClears => u

/-- A write to an event word: in WRITE_ONE_CLEARS mode it clears what it marks (R164, R165). -/
def EventUnit.writeWord (u : EventUnit) (g : EventGroup) (value : Word) : EventUnit :=
  match u.clearMode with
  | .readClears => u
  | .writeOneClears => (u.clearMarks g value).settle

/-- A write to an enable word: every enable of the word takes its value; in PULSE mode each set flag newly enabled owes a
pulse (R162). -/
def EventUnit.writeEnables (u : EventUnit) (g : EventGroup) (value : Word) : EventUnit :=
  let old := u.enables.get g
  let new := value &&& flagPositions g
  EventUnit.settle
    { u with
      enables := u.enables.set g new
      pulsesOwed :=
        match u.interruptMode with
        | .level => u.pulsesOwed
        | .pulse => owe u.pulsesOwed (ones (new &&& ~~~old &&& u.flags.get g)) }

/-- A write to a force word: the marked flags are raised, with no other effect (R163). -/
def EventUnit.force (u : EventUnit) (g : EventGroup) (value : Word) : EventUnit := (u.raiseMarks g value).settle

/-- The clear mode an event control word names (10.7). -/
def clearModeOf (value : Word) : ClearMode := if value.getLsbD 0 then .writeOneClears else .readClears

/-- The interrupt mode an event control word names (10.7). -/
def interruptModeOf (value : Word) : InterruptMode := if value.getLsbD 1 then .pulse else .level

/-- A write to the event control word (R166). -/
def EventUnit.writeControl (u : EventUnit) (value : Word) : EventUnit :=
  let v := { u with clearMode := clearModeOf value, interruptMode := interruptModeOf value }
  match u.interruptMode, interruptModeOf value with
  | .level, .pulse => { v with output := false, pulsesOwed := 0, pulsePhase := .idle }
  | .pulse, .level => { v with output := u.anyEnabled, pulsesOwed := 0, pulsePhase := .idle }
  | _, _ => v

/-- The ALERT source of a slot as the slot controller presents it: becoming asserted sets the flag (R160). -/
def EventUnit.presentAlert (u : EventUnit) (s : SlotId) (asserted : Bool) : EventUnit :=
  let v := { u with alertSources := u.alertSources.set s asserted }
  if asserted && !u.alertSources.get s then v.raise (Flag.alert s) else v

/-! ## The access fault record -/

/-- An offer to the access fault record: captured with ACCESS_FAULT while valid is clear, otherwise marked more
(R169, R170). -/
def EventUnit.offer (u : EventUnit) (o : FaultOffer) : EventUnit :=
  if u.fault.valid then { u with fault := { u.fault with more := true } }
  else { u with fault := { u.fault with valid := true, fields := o } }.raise Flag.accessFault

/-- A release of the access fault record (R171). -/
def EventUnit.releaseFault (u : EventUnit) : EventUnit :=
  { u with fault := { u.fault with valid := false, more := false } }

end Sys2Proof.Machine
end

