-- ==== Sys2Proof/Machine/Ops.lean ====
section
/-! DEFINITION. The named operations over the part's state that the meanings share: accessors, events, the table's
in-flight counting and freeing, the posting unit's queue and holder, the sequencer's choice and beginning of an access,
the channel's units and aborts, and the session end as one operation. -/

namespace Sys2Proof.Machine

/-- What a meaning answers. -/
abbrev Result := Host.Outcome State Fault Refusal

/-! ## Accessors -/

/-- The slot controller of a slot. -/
def State.slot (s : State) (i : SlotId) : SlotController := s.slots.get i

/-- The posting unit of a slot. -/
def State.postingUnit (s : State) (i : SlotId) : PostingUnit := s.posting.get i

/-- The sequencer of a slot. -/
def State.sequencer (s : State) (i : SlotId) : Sequencer := s.sequencers.get i

/-- The record of a channel. -/
def State.channel (s : State) (c : ChannelId) : Channel := s.channels.get c

/-- The memory access record of a channel. -/
def State.memoryRecord (s : State) (c : ChannelId) : Option MemoryAccess := s.memory.get c

/-- The entry of a handle. -/
def State.entry (s : State) (h : Handle) : Entry := s.table[h.val]'h.isLt

/-- The state with a slot controller replaced. -/
def State.setSlot (s : State) (i : SlotId) (x : SlotController) : State := { s with slots := s.slots.set i x }

/-- The state with a posting unit replaced. -/
def State.setPosting (s : State) (i : SlotId) (x : PostingUnit) : State := { s with posting := s.posting.set i x }

/-- The state with a sequencer replaced. -/
def State.setSequencer (s : State) (i : SlotId) (x : Sequencer) : State :=
  { s with sequencers := s.sequencers.set i x }

/-- The state with a channel record replaced. -/
def State.setChannel (s : State) (c : ChannelId) (x : Channel) : State := { s with channels := s.channels.set c x }

/-- The state with a memory access record replaced. -/
def State.setMemory (s : State) (c : ChannelId) (x : Option MemoryAccess) : State :=
  { s with memory := s.memory.set c x }

/-- The state with an entry replaced. -/
def State.setEntry (s : State) (h : Handle) (e : Entry) : State := { s with table := s.table.set h.val e h.isLt }

/-- The state with the event unit replaced. -/
def State.setEvents (s : State) (u : EventUnit) : State := { s with events := u }

/-- The state with an answer given at the system port (R89; log 6). -/
def State.answered (s : State) (a : Answer) : State := { s with answer := some a }

/-- A function applied to every entry of a table. -/
def Table.mapEntries (f : Entry → Entry) (t : Table) : Table := ⟨⟨t.toList.map f⟩, by simp⟩

/-! ## Events -/

/-- An event raised at the event unit (R159). -/
def State.raise (s : State) (f : Flag) : State := s.setEvents (s.events.raise f)

/-- The end of an event at the interrupt output (R167, R168; log 11). -/
def State.settle (s : State) : State := s.setEvents s.events.settle

/-- A fault offered to the access fault record (R169, R170). -/
def State.offer (s : State) (o : FaultOffer) : State := s.setEvents (s.events.offer o)

/-! ## Decode of system addresses (R43, R91) -/

/-- The first address of the control window (R91). -/
def Port.windowStart (p : Port) : Nat := Config.windowBase + Config.windowStride * p.location.val

/-- Whether an address lies in the control window (R91). -/
def Port.inWindow (p : Port) (address : Word) : Bool :=
  p.windowStart ≤ address.toNat && address.toNat < p.windowStart + Config.windowBytes

/-- The aperture-space base (R90). -/
def Port.base (p : Port) : Nat := Config.apertureBytes * p.region.val

/-- Whether an address lies in aperture space, whatever the enable (R43). -/
def Port.inAperture (p : Port) (address : Word) : Bool :=
  p.base ≤ address.toNat && address.toNat < p.base + Config.apertureBytes

/-- The aperture offset of an address in aperture space (R43). -/
def Port.apertureOffset (p : Port) (address : Word) : Nat := address.toNat - p.base

/-- Whether the master side may not issue an access at an address: it lies in the control window, or in aperture space
while that is enabled (R104). -/
def Port.blocksMaster (p : Port) (address : Word) : Bool :=
  p.inWindow address || (p.enable && p.inAperture address)

/-! ## The aperture table -/

/-- Whether all 32 entries are FREE (R93). -/
def State.allFree (s : State) : Bool := handles.all (fun h => (s.entry h).state == .free)

/-- The entry that is not FREE and covers a granule, if there is one (R61). -/
def State.covering (s : State) (granule : Nat) : Option Handle :=
  handles.find? (fun h => (s.entry h).covers granule)

/-- Every channel bound to one of the given handles loses its binding (R157). -/
def State.unbindWhere (s : State) (p : Handle → Bool) : State :=
  { s with
    channels := s.channels.map (fun c =>
      match c.bound with
      | some h => if p h then { c with bound := none } else c
      | none => c) }

/-- A handle joins the retired-handle set, with RETIRED raised (R59). -/
def State.retireHandle (s : State) (h : Handle) : State :=
  { s with retired := s.retired ||| positionMark h.val }.raise Flag.retired

/-- An entry moves into FREE: its fields are cleared, its channels unbound, and if it left FENCED its handle is retired
(R47). -/
def State.freeEntry (s : State) (h : Handle) : State :=
  let freed := (s.setEntry h Entry.free).unbindWhere (fun k => k == h)
  if (s.entry h).state = .fenced then freed.retireHandle h else freed

/-- An acceptance through an entry: the in-flight count rises by 1 and the used mark is set (R48, R57). -/
def State.acceptThrough (s : State) (h : Handle) : State :=
  s.setEntry h { s.entry h with inFlight := (s.entry h).inFlight + 1, used := true }

/-- An accepted access of an entry finishes: its in-flight count falls by 1, and a FENCED entry that reaches 0 is freed
and retired (R49, R51). -/
def State.finishOne (s : State) (h : Handle) : State :=
  if (s.entry h).state = .fenced && (s.entry h).inFlight - 1 = 0 then s.freeEntry h
  else s.setEntry h { s.entry h with inFlight := (s.entry h).inFlight - 1 }

/-- The marks of the handles with a property. -/
def handleMarks (p : Handle → Bool) : Word :=
  handles.foldl (fun w h => if p h then w ||| positionMark h.val else w) 0

/-! ## Channels and slots -/

/-- A channel is active in ARMED, RUNNING and PAUSED (R69). -/
def Channel.isActive (c : Channel) : Bool :=
  match c.state with
  | .armed => true
  | .running => true
  | .paused => true
  | .idle => false
  | .done => false
  | .aborted => false

/-- The slot of a channel: the slot of its bound entry (R140). -/
def State.channelSlot (s : State) (c : ChannelId) : Option SlotId :=
  (s.channel c).bound.map (fun h => (s.entry h).slot)

/-- The lowest active channel bound to an entry that has a property (R69). -/
def State.activeBound (s : State) (h : Handle) (p : Channel → Bool) : Option ChannelId :=
  fourIds.find? (fun c => (s.channel c).bound == some h && (s.channel c).isActive && p (s.channel c))

/-- A channel is aborted with a cause: its unit in progress ends without completing and CHANNEL_ABORT is raised
(R154, R155). -/
def State.abortChannel (s : State) (c : ChannelId) (cause : AbortCause) : State :=
  (((s.setChannel c
      { s.channel c with
        state := .aborted, abortCause := some cause, unit := none, stopPending := .none, resumeState := none,
        unitDue := false }).setMemory c none).raise (Flag.channelAbort c))

/-! ## The master side (R104) -/

/-- A memory access is issued, for the first time or again: it fails with MEMORY_ERROR if its address lies in the part's
own windows (R104). -/
def State.issueMemory (s : State) (c : ChannelId) (m : MemoryAccess) : State :=
  if s.port.blocksMaster m.address then s.abortChannel c .memoryError else s.setMemory c (some m)

/-! ## Units (R151 to R153) -/

/-- The translation of a channel's next unit (R152). -/
def Channel.unitTarget (c : Channel) (h : Handle) (e : Entry) : Target :=
  { handle := h, space := e.space, moduleAddress := e.translate c.currentDisplacement, width := e.width,
    timingClass := e.timingClass, size := c.unitSize.toSize }

/-- A unit of a channel starts: the state is RUNNING, the translation is computed, and the first half is due at the
sequencer or handed to the master side (R152). -/
def State.startUnit (s : State) (c : ChannelId) : State :=
  let ch := s.channel c
  match ch.bound with
  | none => s
  | some h =>
    let target := ch.unitTarget h (s.entry h)
    match ch.direction with
    | .toMemory =>
      s.setChannel c
        { ch with
          state := .running
          unit := some { half := .moduleHalf, target := target, memoryAddress := ch.currentAddress, data := 0,
                         moduleBegun := false } }
    | .fromMemory =>
      (s.setChannel c
        { ch with
          state := .running
          unit := some { half := .memoryHalf, target := target, memoryAddress := ch.currentAddress, data := 0,
                         moduleBegun := false } }).issueMemory c
        { address := memoryIssueAddress ch.unitSize ch.currentAddress, size := ch.unitSize.toSize, direction := .read,
          data := 0, retries := 0 }

/-- Whether a channel without a unit in progress may start one: ARMED or RUNNING with no stop pending (R151). -/
def Channel.mayStart (c : Channel) : Bool :=
  (c.state == .armed || c.state == .running) && c.unit.isNone && c.stopPending == .none

/-- Whether the level of the request line makes a unit due (R151): DEMAND mode, unmasked, line asserted. -/
def Channel.demandDue (c : Channel) (requestLine : Bool) : Bool := c.mode == .demand && !c.mask && requestLine

/-- The level of the transfer request line of a channel's slot. -/
def State.requestLevel (s : State) (c : ChannelId) (lines : Lines) : Bool :=
  match s.channelSlot c with
  | none => false
  | some i => (lines.get i).request

/-- A DEMAND channel whose line is found asserted starts a unit (R145, R150, R151). -/
def State.startIfDemanded (s : State) (c : ChannelId) (lines : Lines) : State :=
  if (s.channel c).mayStart && (s.channel c).demandDue (s.requestLevel c lines) then s.startUnit c else s

/-- The next unit is started when the mode makes one due, at the end of a unit or at a RESUME (R148, R151, R153). -/
def State.startIfDue (s : State) (c : ChannelId) (lines : Lines) : State :=
  let ch := s.channel c
  if ch.mayStart then
    match ch.mode with
    | .block => if ch.state = .running then s.startUnit c else s
    | .unit => if ch.unitDue then (s.setChannel c { ch with unitDue := false }).startUnit c else s
    | .demand => s.startIfDemanded c lines
  else s

/-- A CANCEL takes effect (R149). -/
def Channel.cancelled (c : Channel) : Channel :=
  { c with state := .idle, unitDue := false, resumeState := none, stopPending := .none }

/-- A PAUSE takes effect, with the state then held as the resume state (R147, R153). -/
def Channel.pausedFrom (c : Channel) (r : ResumeState) : Channel :=
  { c with state := .paused, resumeState := some r, stopPending := .none }

/-- The current memory address after a unit (R153). -/
def Channel.steppedAddress (c : Channel) : Word :=
  match c.memoryStep with
  | .up => c.currentAddress + BitVec.ofNat 32 c.unitSize.bytes
  | .down => c.currentAddress - BitVec.ofNat 32 c.unitSize.bytes

/-- The current displacement after a unit, in an aperture of the given length (R153). -/
def Channel.steppedDisplacement (c : Channel) (length : Nat) : Nat :=
  match c.moduleStep with
  | .fixed => c.currentDisplacement
  | .up =>
    if c.currentDisplacement + c.unitSize.bytes < length then c.currentDisplacement + c.unitSize.bytes
    else c.currentDisplacement + c.unitSize.bytes - length

/-- A channel after the count, the address and the displacement of a unit that has ended are stepped, with the unit no
longer in progress (R153, steps 1 to 3). -/
def Channel.stepped (c : Channel) (length : Nat) : Channel :=
  { c with
    unit := none, currentCount := c.currentCount - 1, currentAddress := c.steppedAddress,
    currentDisplacement := c.steppedDisplacement length }

/-- Terminal count (R153, step 4). -/
def Channel.terminal (c : Channel) : Channel :=
  if c.reload then
    { c with
      state := .armed, currentCount := c.baseCount, currentAddress := c.baseAddress,
      currentDisplacement := c.baseDisplacement }
  else { c with state := .done, stopPending := .none, unitDue := false }

/-- A pending stop is applied to a channel that is ARMED or RUNNING (R153, step 5). -/
def Channel.applyStop (c : Channel) : Channel :=
  match c.state, c.stopPending with
  | .armed, .pause => c.pausedFrom .armed
  | .running, .pause => c.pausedFrom .running
  | .armed, .cancel => c.cancelled
  | .running, .cancel => c.cancelled
  | _, _ => c

/-- The length in bytes of the aperture a channel is bound to; 0 when it is bound to none. -/
def State.boundLength (s : State) (c : ChannelId) : Nat :=
  match (s.channel c).bound with
  | none => 0
  | some h => (s.entry h).length

/-- A unit of a channel ends with both halves done (R153). -/
def State.endUnit (s : State) (c : ChannelId) (lines : Lines) : State :=
  let stepped := (s.channel c).stepped (s.boundLength c)
  if stepped.currentCount = 0 then
    (((s.setChannel c stepped.terminal.applyStop).raise (Flag.channelDone c)).startIfDue c lines)
  else (s.setChannel c stepped.applyStop).startIfDue c lines

/-! ## The sequencer's choice and the beginning of an access (R126 to R129) -/

/-- The system work a posting unit offers (R110). -/
inductive SystemWork where
  | headWrite (item : QueueItem)
  | heldRead (read : HeldRead)
deriving DecidableEq, Repr

/-- The head item as system work. -/
def PostingUnit.headWork (p : PostingUnit) : Option SystemWork :=
  match p.queue with
  | [] => none
  | item :: _ => some (.headWrite item)

/-- The system work the posting unit offers next (R110). -/
def PostingUnit.offered (p : PostingUnit) : Option SystemWork :=
  match p.holder with
  | none => p.headWork
  | some r =>
    match r.state with
    | .waiting 0 => some (.heldRead r)
    | .waiting (_ + 1) => p.headWork
    | .issued => none
    | .ready _ => p.headWork
    | .failed => p.headWork

/-- Whether a channel has a module half due that the sequencer has not begun (R126, R152). -/
def Channel.halfDue (c : Channel) : Bool :=
  (c.state == .armed || c.state == .running) &&
    match c.unit with
    | none => false
    | some u => u.half == .moduleHalf && !u.moduleBegun

/-- The lowest-numbered channel of a slot with a module half due (R128). -/
def State.dueChannel (s : State) (i : SlotId) : Option ChannelId :=
  fourIds.find? (fun c => (s.channel c).halfDue && s.channelSlot c == some i)

/-- The phase a module cycle begins in and its periods (R130). -/
def Profile.firstPhase (p : Profile) : Phase := if p.setup = 0 then .strobe else .setup

/-- The periods of the phase a module cycle begins in (R130). -/
def Profile.firstPeriods (p : Profile) : Nat := if p.setup = 0 then p.strobe else p.setup

/-- An access begins at a slot's sequencer (R129): it reads the profile and the wait limit, clears the partial mark,
samples width-sense, fixes the plan, starts the first cycle and sets the preference to the other source (R127). -/
def State.beginAccess (s : State) (i : SlotId) (source : AccessSource) (direction : Direction) (target : Target)
    (data : Word) (other : Preference) (lines : Lines) : State :=
  let config := (s.slot i).config
  let profile := config.profiles.get target.timingClass
  s.setSequencer i
    { access := some
        { source := source, direction := direction, target := target, data := data
          plan := cyclePlan target (lines.get i).widthSense, index := 0
          phase := profile.firstPhase, periods := profile.firstPeriods, profile := profile
          waitLimit := Config.waitStep * config.waitLimit }
      preference := other, waitTimer := none, partialMark := false }

/-- System work begins: head in progress is set, or the holder is ISSUED (R116, R129). -/
def State.beginSystem (s : State) (i : SlotId) (work : SystemWork) (lines : Lines) : State :=
  match work with
  | .headWrite item =>
    (s.setPosting i { s.postingUnit i with headInProgress := true }).beginAccess i .headWrite .write item.target
      item.data .channel lines
  | .heldRead r =>
    (s.setPosting i { s.postingUnit i with holder := some { r with state := .issued } }).beginAccess i .heldRead .read
      r.target 0 .channel lines

/-- The direction of a channel's module half (R130). -/
def ChannelDirection.moduleDirection : ChannelDirection → Direction
  | .toMemory => .read
  | .fromMemory => .write

/-- A channel's module half begins (R129). -/
def State.beginHalf (s : State) (i : SlotId) (c : ChannelId) (lines : Lines) : State :=
  let ch := s.channel c
  match ch.unit with
  | none => s
  | some u =>
    (s.setChannel c { ch with unit := some { u with moduleBegun := true } }).beginAccess i (.channelHalf c)
      ch.direction.moduleDirection u.target
      (match ch.direction with
       | .toMemory => 0
       | .fromMemory => u.data.setWidth 32)
      .system lines

/-- A choice at a slot's sequencer: if it is free, the waiting source begins, and the preference decides when both wait
(R126, R127). -/
def State.choose (s : State) (i : SlotId) (lines : Lines) : State :=
  match (s.sequencer i).access with
  | some _ => s
  | none =>
    match (s.postingUnit i).offered, s.dueChannel i with
    | none, none => s
    | some work, none => s.beginSystem i work lines
    | none, some c => s.beginHalf i c lines
    | some work, some c =>
      match (s.sequencer i).preference with
      | .system => s.beginSystem i work lines
      | .channel => s.beginHalf i c lines

/-- A choice at the sequencer of a channel's slot, if it has one. -/
def State.chooseFor (s : State) (c : ChannelId) (lines : Lines) : State :=
  match s.channelSlot c with
  | none => s
  | some i => s.choose i lines

/-! ## The posting unit -/

/-- The discarded-write count after `n` more discards: it saturates (R113). -/
def addDiscards (count n : Nat) : Nat := min Config.discardedMax (count + n)

/-- A held read after the head item has left the queue: its writes ahead falls by 1 (R110). -/
def HeldRead.headLeft (r : HeldRead) : HeldRead :=
  match r.state with
  | .waiting n => { r with state := .waiting (n - 1) }
  | _ => r

/-- The head item leaves the queue (R111, R112). -/
def PostingUnit.dropHead (p : PostingUnit) : PostingUnit :=
  { p with queue := p.queue.tail, headInProgress := false, holder := p.holder.map HeldRead.headLeft }

/-- The head item of a slot's queue completes at the module (R111). -/
def State.completeWrite (s : State) (i : SlotId) : State :=
  match (s.postingUnit i).queue with
  | [] => s
  | item :: _ => (s.setPosting i (s.postingUnit i).dropHead).finishOne item.target.handle

/-- The head item of a slot's queue is discarded at a timeout: counted, DATA_LOST raised, in-flight decreased (R112). -/
def State.discardWrite (s : State) (i : SlotId) : State :=
  match (s.postingUnit i).queue with
  | [] => s
  | item :: _ =>
    ((s.setPosting i
        { (s.postingUnit i).dropHead with discarded := addDiscards (s.postingUnit i).discarded 1 }).raise
      (Flag.dataLost i)).finishOne item.target.handle

/-- The held read of a slot finishes at the module, READY or FAILED, and its collection timer starts (R116, R119). -/
def State.finishRead (s : State) (i : SlotId) (outcome : HeldState) : State :=
  match (s.postingUnit i).holder with
  | none => s
  | some r =>
    s.setPosting i
      { s.postingUnit i with
        holder := some { r with state := outcome }
        collectionTimer := some (Config.collectionStep * s.collectionLimit) }

/-- The holder of a slot becomes EMPTY at a collection or a release: the timer stops and the in-flight count of the held
read's entry decreases (R117, R120). -/
def State.emptyHolder (s : State) (i : SlotId) (r : HeldRead) : State :=
  (s.setPosting i { s.postingUnit i with holder := none, collectionTimer := none }).finishOne r.target.handle

/-! ## The session end (R36, R53, R54, R122, R138, R155) -/

/-- A channel at the session end of slot `i`: if its bound entry belongs to the slot, it is aborted if it is active, and
its request mask is set whatever its state (R155). -/
def State.endChannelSession (s : State) (i : SlotId) (c : ChannelId) : State :=
  if s.channelSlot c = some i then
    let t := if (s.channel c).isActive then s.abortChannel c .sessionEnd else s
    t.setChannel c { t.channel c with mask := true }
  else s

/-- Every channel at the session end of slot `i` (R155). -/
def State.endChannelSessions (s : State) (i : SlotId) : State :=
  fourIds.foldl (fun t c => t.endChannelSession i c) s

/-- The purge of slot `i`'s posting unit: every queued write is discarded and counted with DATA_LOST, except at a soft
reset, and the holder is emptied (R122, R124). -/
def State.purge (s : State) (i : SlotId) (cause : EndCause) : State :=
  let p := s.postingUnit i
  let emptied : PostingUnit :=
    { queue := [], headInProgress := false, holder := none, collectionTimer := none
      discarded := if cause = .softReset then p.discarded else addDiscards p.discarded p.queue.length }
  if p.queue = [] || cause = .softReset then s.setPosting i emptied
  else (s.setPosting i emptied).raise (Flag.dataLost i)

/-- An entry of the slot at its session end, under a removal policy and with the epoch the session end carries (R53,
R54): the in-flight count is 0 after the event. -/
def Entry.afterSession (e : Entry) (policy : RemovalPolicy) (epoch : BitVec 16) : Entry :=
  match e.state, policy with
  | .free, _ => e
  | .staged, _ => { e with inFlight := 0 }
  | .live, .keep => { e with state := .orphaned, boundEpoch := some epoch, inFlight := 0 }
  | .live, .release => Entry.free
  | .fenced, _ => Entry.free
  | .orphaned, .keep => { e with inFlight := 0 }
  | .orphaned, .release => Entry.free

/-- The table at a session end: the slot's entries move by the removal policy, the FENCED ones are retired, and the
channels bound to an entry freed here lose their binding (R47, R53, R59). -/
def State.endTableSession (s : State) (e : SessionEnd) : State :=
  let policy := (s.slot e.slot).config.policy
  let table := s.table.mapEntries (fun x => if x.slot = e.slot then x.afterSession policy e.epoch else x)
  let freed (h : Handle) : Bool :=
    (s.entry h).slot == e.slot && (s.entry h).state != .free && ((s.entry h).afterSession policy e.epoch).state == .free
  let fenced := handleMarks (fun h => (s.entry h).slot == e.slot && (s.entry h).state == .fenced)
  let t := { s with table := table, retired := s.retired ||| fenced }.unbindWhere freed
  if fenced = 0 then t else t.raise Flag.retired

/-- A session end as the other blocks take it, in one event, after the slot controller has left ACTIVE: the transfer unit
aborts first, the sequencer abandons its access and its preference is SYSTEM, the posting unit purges, the table moves the
slot's entries, and the event unit takes SESSION_DOWN and the deasserted ALERT source (R35, R36, R54, R127, R138,
R156). -/
def State.endSession (s : State) (e : SessionEnd) : State :=
  let t := (s.endChannelSessions e.slot).setSequencer e.slot Sequencer.initial
  let u := (t.purge e.slot e.cause).endTableSession e
  (u.setEvents (u.events.presentAlert e.slot false)).raise (Flag.sessionDown e.slot)

end Sys2Proof.Machine
end

