-- ==== Sys2Proof/Machine/Channels.lean ====
section
/-! DEFINITION. The transfer unit's commands: the seven channel requests, the setting words, an assertion of a transfer
request line and an answer of the interconnect (08; 05, 5.6). -/

namespace Sys2Proof.Machine

/-! ## Shared operations -/

/-- The last request result of a channel is written (R143). -/
def State.channelResult (s : State) (c : ChannelId) (r : ChannelResult) : State :=
  s.setChannel c { s.channel c with lastResult := r }

/-- The end of an event that may have made a channel's module half due: its slot's sequencer chooses and the interrupt
output follows (R126, R167, R168). -/
def State.afterUnits (s : State) (c : ChannelId) (lines : Lines) : State := (s.chooseFor c lines).settle

/-! ## CONFIGURE (R144) -/

/-- The base count a CONFIGURE stores: 0 stands for 65,536 (R144). -/
def countOf (setting : Word) : Nat := if bits setting 15 0 = 0 then 65536 else bits setting 15 0

/-- A channel loaded from its setting words with the given binding, mode and base displacement (R144). The handle that the
record's configuration word shows is the one bound, and 0 for no entry (R176; log 24). -/
def Channel.configured (c : Channel) (w : ChannelSettings) (bound : Option Handle) (mode : Mode)
    (displacement : Nat) : Channel :=
  { c with
    state := .idle, bound := bound, direction := controlDirection w.control, mode := mode,
    unitSize := controlUnitSize w.control, baseAddress := w.memoryAddress, currentAddress := w.memoryAddress,
    memoryStep := controlMemoryStep w.control, baseDisplacement := displacement, currentDisplacement := displacement,
    moduleStep := controlModuleStep w.control, baseCount := countOf w.count, currentCount := countOf w.count,
    reload := controlReload w.control, stopPending := .none, unitDue := false, abortCause := none, lastResult := .ok,
    recordHandle := bound.getD 0 }

/-- A CONFIGURE request (R143, R144). -/
def State.configure (s : State) (c : ChannelId) : State :=
  let w := s.settings.get c
  match controlMode w.control with
  | none => s.channelResult c .badRequest
  | some mode =>
    if (s.channel c).isActive then s.channelResult c .wrongState
    else
      match controlBound w.control with
      | none => s.setChannel c ((s.channel c).configured w none mode (bits w.displacement 27 0))
      | some h =>
        if (s.entry h).state = .free then s.channelResult c .notBound
        else
          s.setChannel c
            ((s.channel c).configured w (some h) mode (bits w.displacement 27 0 % (s.entry h).length))

/-- CONFIGURE. -/
def execConfigure (c : ChannelId) (s : State) : Result := .next ((s.configure c).answered .ok)

/-! ## ARM (R145) -/

/-- The decision of an ARM request by the checks of R145 in order. -/
def State.armDecision (s : State) (c : ChannelId) : ChannelResult :=
  let ch := s.channel c
  if ch.state ≠ .idle then .wrongState
  else
    match ch.bound with
    | none => .notLive
    | some h =>
      let e := s.entry h
      if e.state ≠ .live then .notLive
      else if ch.direction = .fromMemory && e.access = .readOnly then .writeProtected
      else if ch.mode ≠ .block && (s.slot e.slot).identity.kind = some .memory then .wrongKind
      else .ok

/-- An ARM request (R145, R151). -/
def State.arm (s : State) (c : ChannelId) (lines : Lines) : State :=
  match s.armDecision c with
  | .ok =>
    ((s.setChannel c { s.channel c with state := .armed, lastResult := .ok }).startIfDemanded c lines).afterUnits c
      lines
  | r => s.channelResult c r

/-- ARM. -/
def execArm (c : ChannelId) (lines : Lines) (s : State) : Result := .next ((s.arm c lines).answered .ok)

/-! ## START (R146) -/

/-- A START request (R146). -/
def State.startRequest (s : State) (c : ChannelId) (lines : Lines) : State :=
  let ch := s.channel c
  if ch.state = .armed && ch.mode = .block then
    ((s.setChannel c { ch with state := .running, lastResult := .ok }).startUnit c).afterUnits c lines
  else s.channelResult c .wrongState

/-- START. -/
def execStart (c : ChannelId) (lines : Lines) (s : State) : Result := .next ((s.startRequest c lines).answered .ok)

/-! ## PAUSE (R147) -/

/-- A channel that accepts a PAUSE while RUNNING with a unit in progress: a pending CANCEL stays pending (R147). -/
def Channel.pauseLater (c : Channel) : Channel :=
  match c.stopPending with
  | .none => { c with stopPending := .pause }
  | .pause => c
  | .cancel => c

/-- A PAUSE request (R147). -/
def State.pause (s : State) (c : ChannelId) : State :=
  let ch := s.channel c
  match ch.state, ch.unit with
  | .armed, _ => s.setChannel c { ch.pausedFrom .armed with lastResult := .ok }
  | .running, none => s.setChannel c { ch.pausedFrom .running with lastResult := .ok }
  | .running, some _ => s.setChannel c { ch.pauseLater with lastResult := .ok }
  | .idle, _ => s.channelResult c .wrongState
  | .paused, _ => s.channelResult c .wrongState
  | .done, _ => s.channelResult c .wrongState
  | .aborted, _ => s.channelResult c .wrongState

/-- PAUSE. -/
def execPause (c : ChannelId) (s : State) : Result := .next ((s.pause c).answered .ok)

/-! ## RESUME (R148) -/

/-- The channel state a resume state names; a PAUSED channel always holds one (R140; log 19). -/
def resumedState : Option ResumeState → ChannelState
  | some .armed => .armed
  | some .running => .running
  | none => .running

/-- A RESUME request (R148). -/
def State.resume (s : State) (c : ChannelId) (lines : Lines) : State :=
  let ch := s.channel c
  if ch.state = .paused then
    ((s.setChannel c { ch with state := resumedState ch.resumeState, resumeState := none, lastResult := .ok }).startIfDue
      c lines).afterUnits c lines
  else s.channelResult c .wrongState

/-- RESUME. -/
def execResume (c : ChannelId) (lines : Lines) (s : State) : Result := .next ((s.resume c lines).answered .ok)

/-! ## CANCEL (R149) -/

/-- A CANCEL request (R149). -/
def State.cancel (s : State) (c : ChannelId) : State :=
  let ch := s.channel c
  match ch.state, ch.unit with
  | .armed, _ => s.setChannel c { ch.cancelled with lastResult := .ok }
  | .paused, _ => s.setChannel c { ch.cancelled with lastResult := .ok }
  | .running, none => s.setChannel c { ch.cancelled with lastResult := .ok }
  | .running, some _ => s.setChannel c { ch with stopPending := .cancel, lastResult := .ok }
  | .idle, _ => s.channelResult c .wrongState
  | .done, _ => s.channelResult c .wrongState
  | .aborted, _ => s.channelResult c .wrongState

/-- CANCEL. -/
def execCancel (c : ChannelId) (s : State) : Result := .next ((s.cancel c).answered .ok)

/-! ## UNMASK (R150) -/

/-- An UNMASK request (R150, R151). -/
def State.unmask (s : State) (c : ChannelId) (lines : Lines) : State :=
  ((s.setChannel c { s.channel c with mask := false, lastResult := .ok }).startIfDemanded c lines).afterUnits c lines

/-- UNMASK. -/
def execUnmask (c : ChannelId) (lines : Lines) (s : State) : Result := .next ((s.unmask c lines).answered .ok)

/-! ## The request word and the setting words -/

/-- CHANNEL_BAD_REQUEST: whatever unused code the word carries, only the last request result changes (R143). -/
def execChannelBadRequest (c : ChannelId) (_value : Word) (s : State) : Result :=
  .next ((s.channelResult c .badRequest).answered .ok)

/-- A write of a channel's request word (R143, 10.6). -/
def State.channelRequest (s : State) (c : ChannelId) (value : Word) (lines : Lines) : State :=
  match channelRequestOf value with
  | .configure => s.configure c
  | .arm => s.arm c lines
  | .start => s.startRequest c lines
  | .pause => s.pause c
  | .resume => s.resume c lines
  | .cancel => s.cancel c
  | .unmask => s.unmask c lines
  | .unused => s.channelResult c .badRequest

/-- The setting words with one replaced. -/
def ChannelSettings.set (w : ChannelSettings) (word : SettingWord) (value : Word) : ChannelSettings :=
  match word with
  | .control => { w with control := value }
  | .memoryAddress => { w with memoryAddress := value }
  | .displacement => { w with displacement := value }
  | .count => { w with count := value }

/-- The setting word named. -/
def ChannelSettings.get (w : ChannelSettings) (word : SettingWord) : Word :=
  match word with
  | .control => w.control
  | .memoryAddress => w.memoryAddress
  | .displacement => w.displacement
  | .count => w.count

/-- A write of a channel's setting word (R176). -/
def State.writeSetting (s : State) (c : ChannelId) (word : SettingWord) (value : Word) : State :=
  { s with settings := s.settings.set c ((s.settings.get c).set word (settingValue word value)) }

/-- CHANNEL_SETTING_WRITE. -/
def execChannelSettingWrite (c : ChannelId) (word : SettingWord) (value : Word) (s : State) : Result :=
  .next ((s.writeSetting c word value).answered .ok)

/-! ## The transfer request line (R151) -/

/-- A channel of the slot takes an assertion of its transfer request line (R151). -/
def State.takeAssertion (s : State) (c : ChannelId) : State :=
  let ch := s.channel c
  if !ch.mask && (ch.state = .armed || ch.state = .running) then
    match ch.mode with
    | .unit => if ch.mayStart then s.startUnit c else s.setChannel c { ch with unitDue := true }
    | .demand => if ch.mayStart then s.startUnit c else s
    | .block => if ch.mayStart && ch.state = .armed then s.startUnit c else s
  else s

/-- The channel takes the assertion if its slot is the one given (R151). -/
def State.offerAssertion (s : State) (i : SlotId) (c : ChannelId) : State :=
  if s.channelSlot c = some i then s.takeAssertion c else s

/-- An assertion of a slot's transfer request line: every channel of the slot takes it, then the sequencer chooses
(R126, R151). -/
def State.transferRequest (s : State) (i : SlotId) (lines : Lines) : State :=
  ((fourIds.foldl (fun t c => t.offerAssertion i c) s).choose i lines).settle

/-- TRANSFER_REQUEST_ASSERTION. -/
def execTransferRequestAssertion (i : SlotId) (lines : Lines) (s : State) : Result :=
  .next (s.transferRequest i lines)

/-! ## The interconnect's answer (R105) -/

/-- The data of a memory read that a unit hands to its module half: as many bytes as the unit has (R152). -/
def readData (size : Size) (data : BitVec 16) : BitVec 16 :=
  match size with
  | .one => data &&& 0x00FF
  | .two => data
  | .four => data

/-- A memory half done: a read hands its data to the module half, which is then due; a write ends the unit (R105,
R152). -/
def State.memoryDone (s : State) (c : ChannelId) (m : MemoryAccess) (data : BitVec 16) (lines : Lines) : State :=
  let t := s.setMemory c none
  match (s.channel c).unit with
  | none => t
  | some u =>
    match m.direction with
    | .read =>
      t.setChannel c
        { s.channel c with unit := some { u with half := .moduleHalf, data := readData m.size data } }
    | .write => t.endUnit c lines

/-- The interconnect's answer to a channel's memory access in progress (R105). An answer that finds the record empty is
dropped (R106). -/
def State.memoryAnswer (s : State) (c : ChannelId) (a : MemoryAnswer) (lines : Lines) : State :=
  match s.memoryRecord c with
  | none => s
  | some m =>
    match a with
    | .ok data => (s.memoryDone c m data lines).afterUnits c lines
    | .retry =>
      if m.retries < Config.retryMax then (s.issueMemory c { m with retries := m.retries + 1 }).settle
      else (s.abortChannel c .memoryBusy).settle
    | .error => (s.abortChannel c .memoryError).settle

/-- MEMORY_ANSWER. -/
def execMemoryAnswer (c : ChannelId) (a : MemoryAnswer) (lines : Lines) (s : State) : Result :=
  .next (s.memoryAnswer c a lines)

end Sys2Proof.Machine
end

