-- ==== Sys2Proof/Machine/Commands.lean ====
section
/-! DEFINITION. The command port and the table commands (04): acceptance, the eight completions and that of an unused code,
and the retired-handle set's word. -/

namespace Sys2Proof.Machine

/-! ## The command port -/

/-- The code of a command word (10.4). -/
def commandCodeOf (value : Word) : BitVec 4 := value.extractLsb' 0 4

/-- A write of the command word: acceptance while IDLE (R64), dropped with OVERRUN while BUSY (R65). -/
def State.writeCommand (s : State) (value : Word) : State :=
  match s.command.executing with
  | none =>
    { s with
      command :=
        { s.command with
          executing := some { code := commandCodeOf value, args := s.command.args }
          lastAccepted := some (commandCodeOf value), resultCode := .pending } }
  | some _ => { s with command := { s.command with overrun := true } }

/-- COMMAND_ACCEPTANCE. -/
def execCommandAcceptance (value : Word) (s : State) : Result := .next ((s.writeCommand value).answered .ok)

/-- A write of the command status word: a one in position 1 clears OVERRUN (R65, R178). -/
def State.writeCommandStatus (s : State) (value : Word) : State :=
  if value.getLsbD 1 then { s with command := { s.command with overrun := false } } else s

/-- COMMAND_STATUS_WRITE. -/
def execCommandStatusWrite (value : Word) (s : State) : Result := .next ((s.writeCommandStatus value).answered .ok)

/-- A write of argument word `i` (R66). -/
def State.writeArgument (s : State) (i : Fin 4) (value : Word) : State :=
  { s with command := { s.command with args := s.command.args.set i value } }

/-- Three result words; the fourth and every word not named is 0 (R67). -/
def resultWords (a b c : Nat) : Quad Word := ⟨BitVec.ofNat 32 a, BitVec.ofNat 32 b, BitVec.ofNat 32 c, 0⟩

/-- All four result words 0. -/
def noResults : Quad Word := Quad.all 0

/-- A completion: the results and the result code are written, the port is IDLE and COMMAND_DONE is raised (R67). -/
def State.complete (s : State) (code : ResultCode) (results : Quad Word) : State :=
  (({ s with command := { s.command with executing := none, resultCode := code, results := results } }).raise
    Flag.commandDone).settle

/-- The captured arguments, if the command in execution has the given code (log 2). -/
def State.executingArgs (s : State) (code : BitVec 4) : Option (Quad Word) :=
  match s.command.executing with
  | none => none
  | some e => if e.code = code then some e.args else none

/-! ## CREATE (R70 to R72) -/

/-- Whether a range is valid (R44). -/
def validRange (first count : Nat) : Bool := 1 ≤ count && count ≤ Config.granules && first + count ≤ Config.granules

/-- The handles, ascending, of the entries that are not FREE and share a granule with a range (R71). -/
def State.conflicts (s : State) (first count : Nat) : List Handle :=
  handles.filter (fun h =>
    (s.entry h).state != .free && rangesShare first count (s.entry h).firstGranule (s.entry h).granuleCount)

/-- The entry a CREATE that completes OK writes (R70). -/
def CreateArgs.entry (a : CreateArgs) (space : Space) (width : Width) (access : EntryAccess) : Entry :=
  { state := .staged, slot := a.slot, space := space, firstGranule := a.firstGranule, granuleCount := a.granuleCount,
    moduleOffset := a.moduleOffset, width := width, timingClass := a.timingClass, access := access, cookie := a.cookie,
    boundEpoch := none, inFlight := 0, used := false }

/-- The completion of a CREATE with the given arguments (R70, R71). -/
def State.completeCreate (s : State) (a : CreateArgs) : State :=
  match a.space, a.width, a.access with
  | some space, some width, some access =>
    if space = .port && 65535 < a.moduleOffset then s.complete .badField noResults
    else if !validRange a.firstGranule a.granuleCount then s.complete .badRange noResults
    else if space = .port && 16 < a.granuleCount then s.complete .portTooLong noResults
    else if (s.entry a.handle).state ≠ .free then
      s.complete .handleInUse (resultWords (s.entry a.handle).state.code 0 0)
    else
      match s.conflicts a.firstGranule a.granuleCount with
      | h :: more => s.complete .overlap (resultWords h.val (more.length + 1) 0)
      | [] => (s.setEntry a.handle (a.entry space width access)).complete .ok (resultWords a.handle.val 0 0)
  | _, _, _ => s.complete .badField noResults

/-- CREATE. -/
def execCreate (s : State) : Result :=
  .next
    (match s.executingArgs 1 with
     | none => s
     | some args => s.completeCreate (createArgs args))

/-! ## ACTIVATE and REBIND (R73, R81) -/

/-- Whether an entry's space does not fit the kind of its slot's module (R73, R81). -/
def State.wrongKind (s : State) (e : Entry) : Bool :=
  e.space = .port && (s.slot e.slot).identity.kind == some .memory

/-- The epoch of the slot of an entry (R73). -/
def State.entryEpoch (s : State) (e : Entry) : BitVec 16 := (s.slot e.slot).identity.epoch

/-- The entry bound to its slot's session: LIVE under the slot's epoch (R73, R81). -/
def Entry.bindTo (e : Entry) (epoch : BitVec 16) : Entry := { e with state := .live, boundEpoch := some epoch }

/-- The completion of an ACTIVATE of a handle (R73). -/
def State.completeActivate (s : State) (h : Handle) : State :=
  let e := s.entry h
  if e.state ≠ .staged then s.complete .wrongState (resultWords e.state.code 0 0)
  else if (s.slot e.slot).state ≠ .active then s.complete .noSession (resultWords (s.slot e.slot).state.code 0 0)
  else if s.wrongKind e then s.complete .wrongKind noResults
  else (s.setEntry h (e.bindTo (s.entryEpoch e))).complete .ok (resultWords (s.entryEpoch e).toNat 0 0)

/-- ACTIVATE. -/
def execActivate (s : State) : Result :=
  .next
    (match s.executingArgs 2 with
     | none => s
     | some args => s.completeActivate (argHandle args))

/-- The bound epoch as a number, 0 when absent (R83). -/
def Entry.epochNumber (e : Entry) : Nat :=
  match e.boundEpoch with
  | none => 0
  | some x => x.toNat

/-- The completion of a REBIND of a handle (R81). -/
def State.completeRebind (s : State) (h : Handle) : State :=
  let e := s.entry h
  if e.state ≠ .orphaned then s.complete .wrongState (resultWords e.state.code 0 0)
  else if (s.slot e.slot).state ≠ .active then s.complete .noSession (resultWords (s.slot e.slot).state.code 0 0)
  else if s.wrongKind e then s.complete .wrongKind noResults
  else
    (s.setEntry h (e.bindTo (s.entryEpoch e))).complete .ok
      (resultWords (s.entryEpoch e).toNat e.epochNumber 0)

/-- REBIND. -/
def execRebind (s : State) : Result :=
  .next
    (match s.executingArgs 5 with
     | none => s
     | some args => s.completeRebind (argHandle args))

/-! ## AMEND (R75) -/

/-- Whether an AMEND carries an unused encoding, or a PORT offset above 65,535, in a field it reads (R75). -/
def AmendArgs.badField (a : AmendArgs) (e : Entry) : Bool :=
  a.cookieOp.isNone || (a.selectWidth && a.width.isNone) || (a.selectAccess && a.access.isNone) ||
    (a.selectOffset && e.space = .port && 65535 < a.moduleOffset)

/-- The cookie after an AMEND (R75). -/
def AmendArgs.newCookie (a : AmendArgs) (e : Entry) : Option Word :=
  match a.cookieOp with
  | some .set => some a.cookie
  | some .remove => none
  | _ => e.cookie

/-- The entry after an AMEND (R75). -/
def AmendArgs.apply (a : AmendArgs) (e : Entry) : Entry :=
  { e with
    moduleOffset := if a.selectOffset then a.moduleOffset else e.moduleOffset
    width := if a.selectWidth then a.width.getD e.width else e.width
    timingClass := if a.selectTiming then a.timingClass else e.timingClass
    access := if a.selectAccess then a.access.getD e.access else e.access
    cookie := a.newCookie e }

/-- The channel that blocks an AMEND: an active FROM_MEMORY channel bound to the entry, if the access is selected with
READ_ONLY (R75). -/
def State.amendBlocker (s : State) (a : AmendArgs) : Option ChannelId :=
  if a.selectAccess && a.access == some .readOnly then
    s.activeBound a.handle (fun c => c.direction == .fromMemory)
  else none

/-- The completion of an AMEND with the given arguments (R75). -/
def State.completeAmend (s : State) (a : AmendArgs) : State :=
  let e := s.entry a.handle
  if e.state = .free || e.state = .fenced then s.complete .wrongState (resultWords e.state.code 0 0)
  else if a.badField e then s.complete .badField noResults
  else
    match s.amendBlocker a with
    | some c => s.complete .channelBound (resultWords a.handle.val c.val 0)
    | none => (s.setEntry a.handle (a.apply e)).complete .ok (resultWords e.state.code 0 0)

/-- AMEND. -/
def execAmend (s : State) : Result :=
  .next
    (match s.executingArgs 3 with
     | none => s
     | some args => s.completeAmend (amendArgs args))

/-! ## RETIRE (R78) -/

/-- The code of FREED in RETIRE's result word 0 (10.4). -/
def freedCode : Nat := 1

/-- The code of FENCED in RETIRE's result word 0 (10.4). -/
def fencedCode : Nat := 2

/-- The completion of a RETIRE of a handle (R78). -/
def State.completeRetire (s : State) (h : Handle) : State :=
  let e := s.entry h
  if e.state = .free || e.state = .fenced then s.complete .wrongState (resultWords e.state.code 0 0)
  else
    match s.activeBound h (fun _ => true) with
    | some c => s.complete .channelBound (resultWords h.val c.val 0)
    | none =>
      if e.state = .live && e.inFlight ≠ 0 then
        (s.setEntry h { e with state := .fenced }).complete .ok (resultWords fencedCode e.inFlight 0)
      else (s.freeEntry h).complete .ok (resultWords freedCode 0 0)

/-- RETIRE. -/
def execRetire (s : State) : Result :=
  .next
    (match s.executingArgs 4 with
     | none => s
     | some args => s.completeRetire (argHandle args))

/-! ## QUERY (R83, R175) -/

/-- Whether a channel is bound to a handle. -/
def State.boundTo (s : State) (c : ChannelId) (h : Handle) : Bool := (s.channel c).bound == some h

/-- The four result words of a QUERY (10.4, R175). -/
def State.queryWords (s : State) (h : Handle) : Quad Word :=
  let e := s.entry h
  { at0 := pack [(0, 3, e.state.code), (3, 1, e.access.code), (4, 4, e.inFlight), (8, 2, e.slot.val),
                 (10, 2, e.space.code), (12, 2, e.width.code), (14, 2, e.timingClass.val), (16, 16, e.epochNumber)]
    at1 := pack [(0, 16, e.firstGranule), (16, 16, e.granuleCount)]
    at2 := pack [(0, 26, e.moduleOffset), (26, 1, flagBit e.cookie.isSome), (27, 1, flagBit e.used),
                 (28, 1, flagBit (s.boundTo 0 h)), (29, 1, flagBit (s.boundTo 1 h)),
                 (30, 1, flagBit (s.boundTo 2 h)), (31, 1, flagBit (s.boundTo 3 h))]
    at3 := match e.cookie with
           | some value => value
           | none => BitVec.ofNat 32 h.val }

/-- The completion of a QUERY of a handle, with or without the clear-used option (R57, R83). -/
def State.completeQuery (s : State) (h : Handle) (clearUsed : Bool) : State :=
  let words := s.queryWords h
  (if clearUsed then s.setEntry h { s.entry h with used := false } else s).complete .ok words

/-- QUERY. -/
def execQuery (s : State) : Result :=
  .next
    (match s.executingArgs 6 with
     | none => s
     | some args => s.completeQuery (argHandle args) (args.at0.getLsbD 8))

/-! ## FIND (R85) -/

/-- The completion of a FIND of a system address (R85). -/
def State.completeFind (s : State) (address : Word) : State :=
  if s.port.inAperture address then
    let offset := s.port.apertureOffset address
    let granule := offset / Config.granuleBytes
    match s.covering granule with
    | some h =>
      s.complete .ok
        (resultWords h.val (s.entry h).state.code (offset - Config.granuleBytes * (s.entry h).firstGranule))
    | none => s.complete .notFound (resultWords granule 0 0)
  else s.complete .badRange noResults

/-- FIND. -/
def execFind (s : State) : Result :=
  .next
    (match s.executingArgs 7 with
     | none => s
     | some args => s.completeFind args.at0)

/-! ## SWEEP (R87) -/

/-- An entry that is not FREE and belongs to a slot. -/
def Entry.isOf (e : Entry) (i : SlotId) : Bool := e.slot == i && e.state != .free

/-- Whether a SWEEP of its slot frees an entry (R87). -/
def Entry.sweptFree (e : Entry) : Bool :=
  match e.state with
  | .staged => true
  | .orphaned => true
  | .live => e.inFlight == 0
  | .fenced => false
  | .free => false

/-- Whether a SWEEP of its slot fences an entry (R87). -/
def Entry.sweptFenced (e : Entry) : Bool := e.state == .live && e.inFlight != 0

/-- An entry after a SWEEP of its slot (R87). -/
def Entry.swept (e : Entry) : Entry :=
  if e.sweptFree then Entry.free else if e.sweptFenced then { e with state := .fenced } else e

/-- The lowest entry of a slot with an active channel bound to it, and the lowest such channel (R87). -/
def State.sweepBlocker (s : State) (i : SlotId) : Option (Handle × ChannelId) :=
  handles.findSome? (fun h =>
    if (s.entry h).isOf i then (s.activeBound h (fun _ => true)).map (fun c => (h, c)) else none)

/-- How many handles have a property. -/
def countHandles (p : Handle → Bool) : Nat := handles.countP p

/-- The completion of a SWEEP of a slot (R87). -/
def State.completeSweep (s : State) (i : SlotId) : State :=
  match s.sweepBlocker i with
  | some (h, c) => s.complete .channelBound (resultWords h.val c.val 0)
  | none =>
    let freed (h : Handle) : Bool := (s.entry h).isOf i && (s.entry h).sweptFree
    let fenced (h : Handle) : Bool := (s.entry h).isOf i && (s.entry h).sweptFenced
    let passed (h : Handle) : Bool := (s.entry h).isOf i && (s.entry h).state == .fenced
    ({ s with table := s.table.mapEntries (fun e => if e.isOf i then e.swept else e) }.unbindWhere freed).complete .ok
      (resultWords (countHandles freed) (countHandles fenced) (countHandles passed))

/-- SWEEP. -/
def execSweep (s : State) : Result :=
  .next
    (match s.executingArgs 8 with
     | none => s
     | some args => s.completeSweep (quarter (bits args.at0 1 0)))

/-! ## Unused codes and the retired-handle set -/

/-- Whether a command code is unused: 0 and 9 to 15 (10.4). -/
def unusedCode (code : BitVec 4) : Bool := code.toNat = 0 || 9 ≤ code.toNat

/-- UNUSED_COMMAND: refused with BAD_FIELD (R64). -/
def execUnusedCommand (s : State) : Result :=
  .next
    (match s.command.executing with
     | none => s
     | some e => if unusedCode e.code then s.complete .badField noResults else s)

/-- A write of the retired-handle set's word: each marked handle is removed (R60). -/
def State.writeRetired (s : State) (value : Word) : State := { s with retired := s.retired &&& ~~~value }

/-- RETIRED_HANDLE_SET_WRITE. -/
def execRetiredHandleSetWrite (value : Word) (s : State) : Result := .next ((s.writeRetired value).answered .ok)

end Sys2Proof.Machine
end

