-- ==== Sys2Proof/Machine/Events.lean ====
section
/-! DEFINITION. The event unit's commands (09): reads and writes of the event, enable, force and control words, the release
of the access fault record, and the ends of an interrupt pulse and of its gap. -/

namespace Sys2Proof.Machine

/-- The four bytes a 4-byte read of the control window answers with a word's value, on lanes 0 to 3 (R89, R92). -/
def windowData (value : Word) : Answer := .okData (lanesOfBytes 0 .four value)

/-- EVENT_WORD_READ: the flags as they stand are returned, and in READ_CLEARS mode those are cleared (R164, R165). -/
def State.readEventWord (s : State) (g : EventGroup) : State :=
  (s.setEvents (s.events.readWord g)).answered (windowData (s.events.flags.get g))

/-- EVENT_WORD_READ. -/
def execEventWordRead (g : EventGroup) (s : State) : Result := .next (s.readEventWord g)

/-- A write to an event word (R164, R165). -/
def State.writeEventWord (s : State) (g : EventGroup) (value : Word) : State :=
  s.setEvents (s.events.writeWord g value)

/-- EVENT_WORD_WRITE. -/
def execEventWordWrite (g : EventGroup) (value : Word) (s : State) : Result :=
  .next ((s.writeEventWord g value).answered .ok)

/-- A write to an enable word (R162). -/
def State.writeEnableWord (s : State) (g : EventGroup) (value : Word) : State :=
  s.setEvents (s.events.writeEnables g value)

/-- ENABLE_WORD_WRITE. -/
def execEnableWordWrite (g : EventGroup) (value : Word) (s : State) : Result :=
  .next ((s.writeEnableWord g value).answered .ok)

/-- A write to a force word (R163). -/
def State.writeForceWord (s : State) (g : EventGroup) (value : Word) : State :=
  s.setEvents (s.events.force g value)

/-- FORCE_WORD_WRITE. -/
def execForceWordWrite (g : EventGroup) (value : Word) (s : State) : Result :=
  .next ((s.writeForceWord g value).answered .ok)

/-- A write to the event control word (R166). -/
def State.writeEventControl (s : State) (value : Word) : State := s.setEvents (s.events.writeControl value)

/-- EVENT_CONTROL_WRITE. -/
def execEventControlWrite (value : Word) (s : State) : Result := .next ((s.writeEventControl value).answered .ok)

/-- A write to the fault release word (R171). -/
def State.releaseFault (s : State) : State := s.setEvents s.events.releaseFault

/-- FAULT_RELEASE: the value written does not matter (R171). -/
def execFaultRelease (_value : Word) (s : State) : Result := .next (s.releaseFault.answered .ok)

/-- PULSE_END (R168). With no pulse in progress there is no such end (log 2). -/
def execPulseEnd (s : State) : Result := .next (s.setEvents s.events.endPulse)

/-- GAP_END (R168). With no gap in progress there is no such end (log 2). -/
def execGapEnd (s : State) : Result := .next (s.setEvents s.events.endGap)

end Sys2Proof.Machine
end

