-- ==== Sys2Proof/Machine/Sequencer.lean ====
section
/-! DEFINITION. The module access sequencer's commands (07) and the posting unit's own (06): the samples and ends of module
cycles, completion and timeout of an access, the module bus lines, the collection timer and the two registers. -/

namespace Sys2Proof.Machine

/-! ## Module cycles (R130 to R133) -/

/-- The cycle of an access in progress. -/
def BusAccess.cycle (a : BusAccess) : Option Cycle := a.plan[a.index]?

/-- Whether the cycle in progress is the last of its access. -/
def BusAccess.lastCycle (a : BusAccess) : Bool := a.index + 1 == a.plan.length

/-- The access after the sample that ends its strobe phase: a read takes the data of the enabled lanes, and the hold
phase follows (R130 to R132). -/
def BusAccess.strobeEnded (a : BusAccess) (lines : BitVec 16) : BusAccess :=
  { a with
    phase := .hold, periods := a.profile.hold
    data :=
      match a.direction, a.cycle with
      | .read, some c => sampleBytes a.data c lines
      | .read, none => a.data
      | .write, _ => a.data }

/-- The access at the beginning of its next cycle (R130). -/
def BusAccess.nextCycle (a : BusAccess) : BusAccess :=
  { a with index := a.index + 1, phase := a.profile.firstPhase, periods := a.profile.firstPeriods }

/-- The wait timer's interval after a sample finds wait asserted: it starts at the first such sample of a cycle (R133). -/
def Sequencer.waitStarted (q : Sequencer) (limit : Nat) : Option Nat :=
  match q.waitTimer with
  | none => some limit
  | some t => some t

/-- A sequencer after a sample of the wait line. In setup, in hold and between cycles the line is not watched (R132); that
a sample in strobe acts whatever periods are left is the model's choice (log 9). -/
def Sequencer.sampled (q : Sequencer) (waiting : Bool) (lines : BitVec 16) : Sequencer :=
  match q.access with
  | none => q
  | some a =>
    match a.phase with
    | .setup => q
    | .hold => q
    | .strobe =>
      if waiting then
        { q with access := some { a with periods := 1 }, waitTimer := q.waitStarted a.waitLimit }
      else { q with access := some (a.strobeEnded lines), waitTimer := none }

/-- WAIT_SAMPLE (R132, R133). -/
def State.waitSample (s : State) (i : SlotId) (waiting : Bool) (lines : BitVec 16) : State :=
  s.setSequencer i ((s.sequencer i).sampled waiting lines)

/-- WAIT_SAMPLE. -/
def execWaitSample (i : SlotId) (waiting : Bool) (dataLines : BitVec 16) (s : State) : Result :=
  .next (s.waitSample i waiting dataLines)

/-- A sequencer after the end of a cycle that is not the last of its access: the partial mark is set and the next cycle
begins (R130, R133; log 9). -/
def Sequencer.cycleEnded (q : Sequencer) : Sequencer :=
  match q.access with
  | none => q
  | some a =>
    if a.phase = .hold && a.index + 1 < a.plan.length then
      { q with access := some a.nextCycle, partialMark := true }
    else q

/-- MODULE_CYCLE_END. -/
def execModuleCycleEnd (i : SlotId) (s : State) : Result :=
  .next (s.setSequencer i (s.sequencer i).cycleEnded)

/-- An access after one module clock period: setup passes into strobe when its periods have run; the ends of strobe and
hold come with their own commands (R130; log 1). -/
def BusAccess.tick (a : BusAccess) : BusAccess :=
  match a.phase with
  | .setup => if a.periods ≤ 1 then { a with phase := .strobe, periods := a.profile.strobe }
              else { a with periods := a.periods - 1 }
  | .strobe => { a with periods := a.periods - 1 }
  | .hold => { a with periods := a.periods - 1 }

/-- One module clock period at every sequencer (log 1). -/
def State.tick (s : State) : State :=
  { s with sequencers := s.sequencers.map (fun q => { q with access := q.access.map BusAccess.tick }) }

/-! ## The module bus lines (R130, R131, R139) -/

/-- The lines of a slot's module bus that the sequencer drives; absent data lines are not driven. -/
structure BusLines where
  address : BitVec 26
  space : Option Space
  lowerLane : Bool
  upperLane : Bool
  readStrobe : Bool
  writeStrobe : Bool
  data : Option (BitVec 16)
  acknowledge : Bool
deriving DecidableEq, Repr

/-- The idle levels (R139). -/
def BusLines.idle : BusLines :=
  { address := 0, space := none, lowerLane := false, upperLane := false, readStrobe := false, writeStrobe := false,
    data := none, acknowledge := false }

/-- Whether an access is a channel's module half (R139). -/
def AccessSource.isChannel : AccessSource → Bool
  | .headWrite => false
  | .heldRead => false
  | .channelHalf _ => true

/-- The bus lines of a sequencer (R130, R131, R139). -/
def Sequencer.lines (q : Sequencer) : BusLines :=
  match q.access with
  | none => BusLines.idle
  | some a =>
    match a.cycle with
    | none => BusLines.idle
    | some c =>
      { address := BitVec.ofNat 26 c.address, space := some a.target.space
        lowerLane := c.isWord || c.address % 2 == 0
        upperLane := c.isWord || c.address % 2 == 1
        readStrobe := a.phase == .strobe && a.direction == .read
        writeStrobe := a.phase == .strobe && a.direction == .write
        data := match a.direction with
                | .read => none
                | .write => some (writeLines a.data c)
        acknowledge := a.source.isChannel }

/-! ## The end of an access (R134 to R137) -/

/-- A sequencer with no access in progress, its preference kept (R133, R134, R138). -/
def Sequencer.freed (q : Sequencer) : Sequencer := { q with access := none, waitTimer := none, partialMark := false }

/-- The sequencer of a slot has no access in progress any more. -/
def State.freeSequencer (s : State) (i : SlotId) : State := s.setSequencer i (s.sequencer i).freed

/-- The module half of a channel's unit completes: the data of a module read is handed to the master side as the memory
write, and a module write ends the unit (R104, R134, R152, R153). -/
def State.halfDone (s : State) (c : ChannelId) (a : BusAccess) (lines : Lines) : State :=
  let ch := s.channel c
  match ch.unit with
  | none => s
  | some u =>
    match a.direction with
    | .read =>
      let data : BitVec 16 := a.data.setWidth 16
      (s.setChannel c { ch with unit := some { u with half := .memoryHalf, data := data } }).issueMemory c
        { address := memoryIssueAddress ch.unitSize u.memoryAddress, size := ch.unitSize.toSize, direction := .write,
          data := data, retries := 0 }
    | .write => s.endUnit c lines

/-- The completion of an access is reported to its source (R134). -/
def State.reportCompletion (s : State) (i : SlotId) (a : BusAccess) (lines : Lines) : State :=
  match a.source with
  | .headWrite => s.completeWrite i
  | .heldRead => s.finishRead i (.ready a.data)
  | .channelHalf c => s.halfDone c a lines

/-- The end of an event that leaves a slot's sequencer free: it chooses at once and the interrupt output follows
(R126, R167, R168). -/
def State.chooseNext (s : State) (i : SlotId) (lines : Lines) : State := (s.choose i lines).settle

/-- The end of the last cycle of the access in progress (R134). Before it no completion can come (log 9). -/
def State.accessCompletion (s : State) (i : SlotId) (lines : Lines) : State :=
  match (s.sequencer i).access with
  | none => s
  | some a =>
    if a.phase = .hold && a.lastCycle then ((s.freeSequencer i).reportCompletion i a lines).chooseNext i lines
    else s

/-- ACCESS_COMPLETION. -/
def execAccessCompletion (i : SlotId) (lines : Lines) (s : State) : Result := .next (s.accessCompletion i lines)

/-- The offer of a system access that fails with TIMEOUT (R135, R136). -/
def State.timeoutOffer (s : State) (i : SlotId) (direction : Direction) (target : Target) (address : Word) : FaultOffer :=
  { kind := .timeout, direction := direction, address := address, size := target.size, handle := some target.handle,
    slot := some i, cookie := (s.entry target.handle).cookie, partialMark := (s.sequencer i).partialMark }

/-- The fault a failing access offers: a channel's module half offers none (R135 to R137). -/
def State.timeoutFault (s : State) (i : SlotId) (a : BusAccess) : Option FaultOffer :=
  match a.source with
  | .headWrite =>
    (s.postingUnit i).queue.head?.map (fun item => s.timeoutOffer i .write item.target item.systemAddress)
  | .heldRead => (s.postingUnit i).holder.map (fun r => s.timeoutOffer i .read r.target r.systemAddress)
  | .channelHalf _ => none

/-- The state with a fault offered, if there is one. -/
def State.offerAny (s : State) (o : Option FaultOffer) : State :=
  match o with
  | none => s
  | some f => s.offer f

/-- The failure of an access is reported to its source (R112, R116, R137). -/
def State.reportTimeout (s : State) (i : SlotId) (a : BusAccess) : State :=
  match a.source with
  | .headWrite => s.discardWrite i
  | .heldRead => s.finishRead i .failed
  | .channelHalf c => s.abortChannel c .moduleTimeout

/-- The expiry of the wait timer (R133, R135 to R137). With the timer stopped there is no expiry (log 2). -/
def State.waitTimeout (s : State) (i : SlotId) (lines : Lines) : State :=
  match (s.sequencer i).access, (s.sequencer i).waitTimer with
  | some a, some _ =>
    (((s.offerAny (s.timeoutFault i a)).freeSequencer i).reportTimeout i a).chooseNext i lines
  | some _, none => s
  | none, _ => s

/-- WAIT_TIMEOUT. -/
def execWaitTimeout (i : SlotId) (lines : Lines) (s : State) : Result := .next (s.waitTimeout i lines)

/-! ## The posting unit (06) -/

/-- The offer of a held read released by its collection timer (R120). -/
def State.discardedReadOffer (s : State) (i : SlotId) (r : HeldRead) : FaultOffer :=
  { kind := .discardedRead, direction := .read, address := r.systemAddress, size := r.target.size,
    handle := some r.target.handle, slot := some i, cookie := (s.entry r.target.handle).cookie, partialMark := false }

/-- Whether a held read has finished at the module: READY or FAILED. -/
def HeldRead.finished (r : HeldRead) : Bool :=
  match r.state with
  | .waiting _ => false
  | .issued => false
  | .ready _ => true
  | .failed => true

/-- The release of a finished held read at the expiry of its collection timer (R120). -/
def State.releaseRead (s : State) (i : SlotId) (r : HeldRead) : State :=
  ((((s.offer (s.discardedReadOffer i r)).emptyHolder i r).raise (Flag.readDiscarded i))).settle

/-- COLLECTION_TIMER_EXPIRY (R120). With the timer stopped there is no expiry (log 2). -/
def State.collectionExpiry (s : State) (i : SlotId) : State :=
  match (s.postingUnit i).holder, (s.postingUnit i).collectionTimer with
  | some r, some _ => if r.finished then s.releaseRead i r else s
  | some _, none => s
  | none, _ => s

/-- COLLECTION_TIMER_EXPIRY. -/
def execCollectionTimerExpiry (i : SlotId) (s : State) : Result := .next (s.collectionExpiry i)

/-- A write of any value to a slot's discarded-write count word (R113). -/
def State.clearDiscarded (s : State) (i : SlotId) : State := s.setPosting i { s.postingUnit i with discarded := 0 }

/-- DISCARDED_WRITE_COUNT_WRITE: the value written does not matter (R113). -/
def execDiscardedWriteCountWrite (i : SlotId) (_value : Word) (s : State) : Result :=
  .next ((s.clearDiscarded i).answered .ok)

/-- A write of the collection limit word (R119, 10.3). -/
def State.writeCollectionLimit (s : State) (value : Word) : State :=
  { s with collectionLimit := atLeastOne (bits value 3 0) }

/-- COLLECTION_LIMIT_WRITE. -/
def execCollectionLimitWrite (value : Word) (s : State) : Result :=
  .next ((s.writeCollectionLimit value).answered .ok)

end Sys2Proof.Machine
end

