-- ==== Sys2Proof/Machine/Slots.lean ====
section
/-! DEFINITION. The slot controller's commands: presence and identification (01), slot requests and configuration (01, 02),
power, faults and sessions (02). -/

namespace Sys2Proof

/-- The contacts after the named one has changed. -/
def Contacts.toggle (c : Contacts) : Contact → Contacts
  | .a => { c with a := !c.a }
  | .b => { c with b := !c.b }

end Sys2Proof

namespace Sys2Proof.Machine

/-! ## Shared operations of the slot controller -/

/-- Whether the named timer of a slot runs. -/
def SlotController.timerIs (c : SlotController) (k : TimerKind) : Bool :=
  match c.timer with
  | .stopped => false
  | .running j _ => j == k

/-- The switch is off, the module reset line asserted and no timer runs (R21). -/
def SlotController.switchedOff (c : SlotController) : SlotController :=
  { c with timer := .stopped, switchClass := none, resetAsserted := true }

/-- A slot controller after a presence change, in every slot state (R3 to R9). -/
def SlotController.afterPresence (c : SlotController) (k : Contact) : SlotController :=
  let contacts := c.contacts.toggle k
  let closed := contacts.a || contacts.b
  { c with
    state := if closed then .settling else .empty
    contacts := contacts
    timer := if closed then .running .settle Config.settleInterval else .stopped
    probing := none, probeHigh := true, identity := { c.identity with present := false }
    badSupply := false, faultKind := none, switchClass := none, resetAsserted := true }

/-- The first identification round begins (R6, R10, R18). -/
def SlotController.startProbing (c : SlotController) : SlotController :=
  { c with
    state := .probing, timer := .stopped, probing := some { round := 1, codes := [], lowSample := none },
    probeHigh := false }

/-- Probing ends with the given code recorded (R11 to R15). -/
def SlotController.endProbing (c : SlotController) (code : Nat) : SlotController :=
  match probeTable code with
  | some (kind, set) =>
    { c with
      state := .identified, probing := none, probeHigh := true
      identity := { present := true, recognized := true, code := code, kind := some kind, supplySet := some set,
                    epoch := nextEpoch c.identity.epoch } }
  | none =>
    { c with
      state := .unrecognized, probing := none, probeHigh := true
      identity := { present := true, recognized := false, code := code, kind := none, supplySet := none,
                    epoch := c.identity.epoch } }

/-- The slot enters FAULTED (R32). -/
def State.enterFaulted (s : State) (i : SlotId) (kind : FaultKind) : State :=
  let c := s.slot i
  let t := (s.setSlot i { c.switchedOff with state := .faulted, faultKind := some kind }).raise (Flag.fault i)
  if c.state = .active then t.endSession { slot := i, cause := .powerFault, epoch := c.identity.epoch } else t

/-- Whether the module of a slot is of kind FUNCTION and its alert line is asserted (R35, R160). -/
def SlotController.alertSource (c : SlotController) (line : Bool) : Bool := line && c.identity.kind == some .function

/-- The session starts (R28, R34, R35). -/
def State.goActive (s : State) (i : SlotId) (lines : Lines) : State :=
  let c := s.slot i
  let t := (s.setSlot i { c with state := .active, timer := .stopped, resetAsserted := false }).raise (Flag.sessionUp i)
  t.setEvents (t.events.presentAlert i (c.alertSource (lines.get i).alert))

/-- The last request result of a slot is written (R17). -/
def State.slotResult (s : State) (i : SlotId) (r : SlotResult) : State :=
  s.setSlot i { s.slot i with lastResult := r }

/-! ## Presence and identification (01) -/

/-- PRESENCE_CHANGE (R3 to R9). -/
def State.presenceChange (s : State) (i : SlotId) (k : Contact) : State :=
  let c := s.slot i
  let t := (s.setSlot i (c.afterPresence k)).raise (Flag.presence i)
  (if c.state = .active then t.endSession { slot := i, cause := .removal, epoch := c.identity.epoch } else t).settle

/-- PRESENCE_CHANGE. -/
def execPresenceChange (i : SlotId) (k : Contact) (s : State) : Result := .next (s.presenceChange i k)

/-- SETTLE_EXPIRY (R6). With the settle timer stopped there is no expiry (log 2). -/
def State.settleExpiry (s : State) (i : SlotId) : State :=
  let c := s.slot i
  if c.timerIs .settle then
    if c.contacts.a && c.contacts.b then s.setSlot i c.startProbing
    else if c.contacts.a || c.contacts.b then s.setSlot i { c with state := .misseated, timer := .stopped }
    else s
  else s

/-- SETTLE_EXPIRY. -/
def execSettleExpiry (i : SlotId) (s : State) : Result := .next (s.settleExpiry i)

/-- PROBE_LOW_SAMPLE (R10). Outside a round, or with the low sample taken, there is no such sample (log 2). -/
def State.probeLowSample (s : State) (i : SlotId) (k1 k2 : Bool) : State :=
  let c := s.slot i
  match c.probing with
  | none => s
  | some p =>
    match p.lowSample with
    | some _ => s
    | none => s.setSlot i { c with probing := some { p with lowSample := some (k1, k2) }, probeHigh := true }

/-- PROBE_LOW_SAMPLE. -/
def execProbeLowSample (i : SlotId) (k1 k2 : Bool) (s : State) : Result := .next (s.probeLowSample i k1 k2)

/-- What the end of a round decides: probing ends with a code, or a further round begins (R11). -/
inductive RoundOutcome where
  | ends (code : Nat)
  | further
deriving DecidableEq, Repr

/-- The decision at the end of a round (R11): agreement with the round just before ends probing; the fourth round ends it
with code 15 where they differ. -/
def Probing.outcome (p : Probing) (code : Nat) : RoundOutcome :=
  if p.codes.getLast? = some code then .ends code
  else if 4 ≤ p.round then .ends 15
  else .further

/-- IDENTIFICATION_ROUND_END (R10, R11, R13, R14). Before the low sample of a round its end cannot come (log 2). -/
def State.identificationRoundEnd (s : State) (i : SlotId) (k1 k2 : Bool) : State :=
  let c := s.slot i
  match c.probing with
  | none => s
  | some p =>
    match p.lowSample with
    | none => s
    | some (l1, l2) =>
      match p.outcome (roundCode l1 l2 k1 k2) with
      | .ends code => ((s.setSlot i (c.endProbing code)).raise (Flag.identified i)).settle
      | .further =>
        s.setSlot i
          { c with
            probing := some { round := p.round + 1, codes := p.codes ++ [roundCode l1 l2 k1 k2], lowSample := none }
            probeHigh := false }

/-- IDENTIFICATION_ROUND_END. -/
def execIdentificationRoundEnd (i : SlotId) (k1 k2 : Bool) (s : State) : Result :=
  .next (s.identificationRoundEnd i k1 k2)

/-! ## Slot requests and configuration (01, 02) -/

/-- Whether the identity record's supply set holds a class (R22). -/
def Identity.accepts (r : Identity) (k : SupplyClass) : Bool :=
  match r.supplySet with
  | none => false
  | some set => set.contains k

/-- A slot controller whose SUPPLY request is accepted: the switch is on and the slot POWERING (R22, R25). -/
def SlotController.powerUp (c : SlotController) (k : SupplyClass) : SlotController :=
  { c with
    state := .powering, switchClass := some k, badSupply := false, lastResult := .ok
    timer := .running .powerGoodLimit Config.powerGoodLimit }

/-- A slot controller that enters RESETTING (R25, R27). -/
def SlotController.startReset (c : SlotController) : SlotController :=
  { c with state := .resetting, resetAsserted := true, timer := .running .resetPulse Config.resetPulse }

/-- The lines found asserted at the event of entry into POWERING act there (R25, R30; log 14). -/
def State.watchPowering (s : State) (i : SlotId) (lines : SlotLines) : State :=
  if lines.overcurrent then (s.enterFaulted i .overcurrent).settle
  else if lines.powerGood then s.setSlot i (s.slot i).startReset
  else s

/-- A SUPPLY request naming 1V8, 3V3 or 5V0 (R22, R23). -/
def State.supply (s : State) (i : SlotId) (k : SupplyClass) (lines : Lines) : State :=
  let c := s.slot i
  match c.state with
  | .identified =>
    if c.identity.accepts k then (s.setSlot i (c.powerUp k)).watchPowering i (lines.get i)
    else ((s.setSlot i { c with lastResult := .badSupply, badSupply := true }).raise (Flag.badSupply i)).settle
  | .empty => s.slotResult i .noModule
  | .settling => s.slotResult i .noModule
  | .misseated => s.slotResult i .noModule
  | .probing => s.slotResult i .wrongState
  | .unrecognized => s.slotResult i .wrongState
  | .powering => s.slotResult i .wrongState
  | .resetting => s.slotResult i .wrongState
  | .active => s.slotResult i .wrongState
  | .faulted => s.slotResult i .wrongState

/-- SUPPLY. -/
def execSupply (i : SlotId) (k : SupplyClass) (lines : Lines) (s : State) : Result :=
  .next ((s.supply i k lines).answered .ok)

/-- A SUPPLY request naming OFF (R24). -/
def State.supplyOff (s : State) (i : SlotId) : State :=
  let c := s.slot i
  let off : SlotController := { c.switchedOff with state := .identified, lastResult := .ok }
  match c.state with
  | .powering => s.setSlot i off
  | .resetting => s.setSlot i off
  | .active =>
    ((s.setSlot i off).endSession { slot := i, cause := .powerOff, epoch := c.identity.epoch }).settle
  | .faulted => s.setSlot i { c with state := .identified, faultKind := none, lastResult := .ok }
  | .empty => s.slotResult i .ok
  | .settling => s.slotResult i .ok
  | .misseated => s.slotResult i .ok
  | .probing => s.slotResult i .ok
  | .unrecognized => s.slotResult i .ok
  | .identified => s.slotResult i .ok

/-- SUPPLY_OFF. -/
def execSupplyOff (i : SlotId) (s : State) : Result := .next ((s.supplyOff i).answered .ok)

/-- A PROBE request (R18). -/
def State.probe (s : State) (i : SlotId) : State :=
  let c := s.slot i
  match c.state with
  | .identified => s.setSlot i { c.startProbing with lastResult := .ok }
  | .unrecognized => s.setSlot i { c.startProbing with lastResult := .ok }
  | .empty => s.slotResult i .noModule
  | .settling => s.slotResult i .noModule
  | .misseated => s.slotResult i .noModule
  | .probing => s.slotResult i .wrongState
  | .powering => s.slotResult i .wrongState
  | .resetting => s.slotResult i .wrongState
  | .active => s.slotResult i .wrongState
  | .faulted => s.slotResult i .wrongState

/-- PROBE. -/
def execProbe (i : SlotId) (s : State) : Result := .next ((s.probe i).answered .ok)

/-- BAD_REQUEST: whatever unused encoding the word carries, only the last request result changes (R17). -/
def execBadRequest (i : SlotId) (_value : Word) (s : State) : Result :=
  .next ((s.slotResult i .badRequest).answered .ok)

/-- A write of a slot's request word (R17, 10.5). -/
def State.slotRequest (s : State) (i : SlotId) (value : Word) (lines : Lines) : State :=
  match slotRequestOf value with
  | .supply k => s.supply i k lines
  | .supplyOff => s.supplyOff i
  | .probe => s.probe i
  | .unused => s.slotResult i .badRequest

/-- A write of a slot's configuration word (R19, 10.5). -/
def State.writeSlotConfig (s : State) (i : SlotId) (value : Word) : State :=
  let c := s.slot i
  s.setSlot i
    { c with
      config :=
        { c.config with
          policy := if value.getLsbD 0 then .release else .keep
          readyLimit := atLeastOne (bits value 15 8)
          waitLimit := atLeastOne (bits value 23 16) } }

/-- SLOT_CONFIGURATION_WRITE. -/
def execSlotConfigurationWrite (i : SlotId) (value : Word) (s : State) : Result :=
  .next ((s.writeSlotConfig i value).answered .ok)

/-- A write of a slot's timing profiles word (R19, 10.5). -/
def State.writeProfiles (s : State) (i : SlotId) (value : Word) : State :=
  let c := s.slot i
  s.setSlot i
    { c with
      config :=
        { c.config with
          profiles := ⟨profileOf value 0, profileOf value 1, profileOf value 2, profileOf value 3⟩ } }

/-- TIMING_PROFILES_WRITE. -/
def execTimingProfilesWrite (i : SlotId) (value : Word) (s : State) : Result :=
  .next ((s.writeProfiles i value).answered .ok)

/-! ## Power and sessions (02) -/

/-- POWER_GOOD_ASSERTION (R25, R27). Outside POWERING it has no effect (R31, R33). -/
def State.powerGoodAssertion (s : State) (i : SlotId) : State :=
  if (s.slot i).state = .powering then s.setSlot i (s.slot i).startReset else s

/-- POWER_GOOD_ASSERTION. -/
def execPowerGoodAssertion (i : SlotId) (s : State) : Result := .next (s.powerGoodAssertion i)

/-- POWER_GOOD_LIMIT_EXPIRY (R26). With that timer stopped there is no expiry (log 2). -/
def State.powerGoodLimitExpiry (s : State) (i : SlotId) : State :=
  if (s.slot i).timerIs .powerGoodLimit then (s.enterFaulted i .noPowerGood).settle else s

/-- POWER_GOOD_LIMIT_EXPIRY. -/
def execPowerGoodLimitExpiry (i : SlotId) (s : State) : Result := .next (s.powerGoodLimitExpiry i)

/-- The ready limit timer's interval (R19). -/
def SlotConfig.readyInterval (c : SlotConfig) : Nat := Config.readyStep * c.readyLimit

/-- RESET_PULSE_EXPIRY (R27, R28). With that timer stopped there is no expiry (log 2). -/
def State.resetPulseExpiry (s : State) (i : SlotId) (lines : Lines) : State :=
  let c := s.slot i
  if c.timerIs .resetPulse then
    let t := s.setSlot i
      { c with resetAsserted := false, timer := .running .readyLimit c.config.readyInterval }
    if (lines.get i).ready then (t.goActive i lines).settle else t
  else s

/-- RESET_PULSE_EXPIRY. -/
def execResetPulseExpiry (i : SlotId) (lines : Lines) (s : State) : Result := .next (s.resetPulseExpiry i lines)

/-- READY_ASSERTION (R28). The ready line is watched while the ready limit timer runs (R27, R29, R34). -/
def State.readyAssertion (s : State) (i : SlotId) (lines : Lines) : State :=
  if (s.slot i).timerIs .readyLimit then (s.goActive i lines).settle else s

/-- READY_ASSERTION. -/
def execReadyAssertion (i : SlotId) (lines : Lines) (s : State) : Result := .next (s.readyAssertion i lines)

/-- READY_LIMIT_EXPIRY (R29). With that timer stopped there is no expiry (log 2). -/
def State.readyLimitExpiry (s : State) (i : SlotId) : State :=
  if (s.slot i).timerIs .readyLimit then (s.enterFaulted i .noReady).settle else s

/-- READY_LIMIT_EXPIRY. -/
def execReadyLimitExpiry (i : SlotId) (s : State) : Result := .next (s.readyLimitExpiry i)

/-- Whether the switch of a slot is on: POWERING, RESETTING or ACTIVE (R21). -/
def SlotState.switchOn : SlotState → Bool
  | .powering => true
  | .resetting => true
  | .active => true
  | .empty => false
  | .settling => false
  | .misseated => false
  | .probing => false
  | .unrecognized => false
  | .identified => false
  | .faulted => false

/-- OVERCURRENT (R30). While the switch is off it has no effect. -/
def State.overcurrent (s : State) (i : SlotId) : State :=
  if (s.slot i).state.switchOn then (s.enterFaulted i .overcurrent).settle else s

/-- OVERCURRENT. -/
def execOvercurrent (i : SlotId) (s : State) : Result := .next (s.overcurrent i)

/-- POWER_GOOD_LOSS (R31): a loss in RESETTING and ACTIVE alone. -/
def State.powerGoodLoss (s : State) (i : SlotId) : State :=
  match (s.slot i).state with
  | .resetting => (s.enterFaulted i .powerLost).settle
  | .active => (s.enterFaulted i .powerLost).settle
  | _ => s

/-- POWER_GOOD_LOSS. -/
def execPowerGoodLoss (i : SlotId) (s : State) : Result := .next (s.powerGoodLoss i)

/-- ALERT_LINE_CHANGE (R35, R160): passed on in ACTIVE for a FUNCTION module. -/
def State.alertLineChange (s : State) (i : SlotId) (asserted : Bool) : State :=
  let c := s.slot i
  if c.state = .active then (s.setEvents (s.events.presentAlert i (c.alertSource asserted))).settle else s

/-- ALERT_LINE_CHANGE. -/
def execAlertLineChange (i : SlotId) (asserted : Bool) (s : State) : Result := .next (s.alertLineChange i asserted)

/-- Whether an edge of the change line counts for a kind (R35, R161). -/
def countsEdge (kind : Option Kind) (rising : Bool) : Bool :=
  match kind with
  | some .function => rising
  | some .memory => true
  | none => false

/-- CHANGE_LINE_EDGE (R35, R161): reported in ACTIVE. -/
def State.changeLineEdge (s : State) (i : SlotId) (rising : Bool) : State :=
  let c := s.slot i
  if c.state = .active && countsEdge c.identity.kind rising then (s.raise (Flag.change i)).settle else s

/-- CHANGE_LINE_EDGE. -/
def execChangeLineEdge (i : SlotId) (rising : Bool) (s : State) : Result := .next (s.changeLineEdge i rising)

end Sys2Proof.Machine
end

