-- ==== Sys2Proof/Machine/Resets.lean ====
section
/-! DEFINITION. The three resets: power-on reset (R1, R38, R62, R63, R90, R107, R125, R141, R172), soft reset (R2, R39, R62,
R63, R124, R125, R141, R173, R174) and the channel clear (R158). -/

namespace Sys2Proof.Machine

/-! ## Power-on reset -/

/-- POWER_ON_RESET: every block takes its power-on values from the straps and contacts as observed at the release of
reset, with no session end (R1, R38). The commands that wait are the outside's (log 15). -/
def execPowerOnReset (straps : Fin 16) (contacts : Quad Contacts) (s : State) : Result :=
  .next { State.powerOn straps contacts with pending := s.pending }

/-! ## Soft reset -/

/-- A slot controller after a soft reset: a powered or FAULTED slot is IDENTIFIED with the switch off, any other is left
as it is (R2, R39). -/
def SlotController.softReset (c : SlotController) : SlotController :=
  let off : SlotController := { c.switchedOff with state := .identified, faultKind := none }
  match c.state with
  | .powering => off
  | .resetting => off
  | .active => off
  | .faulted => off
  | .empty => c
  | .settling => c
  | .misseated => c
  | .probing => c
  | .unrecognized => c
  | .identified => c

/-- The session end of a slot with cause SOFT_RESET, if the slot was ACTIVE in the state `old` (R39). -/
def State.softEnd (s old : State) (i : SlotId) : State :=
  if (old.slot i).state = .active then
    s.endSession { slot := i, cause := .softReset, epoch := (old.slot i).identity.epoch }
  else s

/-- The table, the command port, the posting units, the sequencers, the master side, the channels and the event unit at
their soft reset values (R62, R63, R106, R124, R125, R141, R173). -/
def State.resetBlocks (s : State) : State :=
  { s with
    table := Table.initial, retired := 0, command := CommandPort.initial,
    posting := Quad.all PostingUnit.initial, sequencers := Quad.all Sequencer.initial, memory := Quad.all none,
    channels := Quad.all Channel.initial, settings := Quad.all ChannelSettings.initial, events := EventUnit.initial }

/-- A soft reset: the slot controllers act, the session ends are taken within it, and then every other block applies its
own reset in the same event (R39, R173, R174; log 20). -/
def State.softReset (s : State) : State :=
  State.resetBlocks
    (fourIds.foldl (fun t i => State.softEnd t s i) { s with slots := s.slots.map SlotController.softReset })

/-- SOFT_RESET. -/
def execSoftReset (s : State) : Result := .next (s.softReset.answered .ok)

/-! ## Channel clear -/

/-- A sequencer at a channel clear: a channel's module half is abandoned and a choice follows at once (R138, R158). -/
def State.clearHalf (s : State) (i : SlotId) (lines : Lines) : State :=
  match (s.sequencer i).access with
  | none => s
  | some a => if a.source.isChannel then (s.freeSequencer i).choose i lines else s

/-- A channel clear (R158). -/
def State.channelClear (s : State) (lines : Lines) : State :=
  fourIds.foldl (fun t i => State.clearHalf t i lines)
    { s with
      channels := Quad.all Channel.initial, settings := Quad.all ChannelSettings.initial, memory := Quad.all none }

/-- CHANNEL_CLEAR. -/
def execChannelClear (lines : Lines) (s : State) : Result := .next ((s.channelClear lines).answered .ok)

end Sys2Proof.Machine
end

