-- ==== Sys2Proof/Machine/Window.lean ====
section
/-! DEFINITION. The control window (10; R92, R93, R174, R178): the register map, the layout of every word software reads, the
effect of a write at every location, and the port's own two registers. -/

namespace Sys2Proof.Machine

/-! ## The port's own registers (R93) -/

/-- The region number a base word carries (10.3). -/
def regionOf (value : Word) : Fin 16 := ⟨bits value 3 0 % 16, Nat.mod_lt _ (by decide)⟩

/-- The target side of the port after a write of the base word, by whether every entry is FREE (R93). -/
def Port.writeBase (p : Port) (value : Word) (allFree : Bool) : Port :=
  if allFree || regionOf value = p.region then { p with region := regionOf value, enable := value.getLsbD 8 }
  else { p with enable := value.getLsbD 8, configRefused := true }

/-- A write of the aperture-space base word (R93, R94). -/
def State.writeBase (s : State) (value : Word) : State := { s with port := s.port.writeBase value s.allFree }

/-- APERTURE_SPACE_BASE_WRITE. -/
def execApertureSpaceBaseWrite (value : Word) (s : State) : Result := .next ((s.writeBase value).answered .ok)

/-- A write of the port status word: a one in position 0 clears CONFIG_REFUSED (R93, R178). -/
def State.writePortStatus (s : State) (value : Word) : State :=
  if value.getLsbD 0 then { s with port := { s.port with configRefused := false } } else s

/-- PORT_STATUS_WRITE. -/
def execPortStatusWrite (value : Word) (s : State) : Result := .next ((s.writePortStatus value).answered .ok)

/-! ## The register map (10.1) -/

/-- The registers of the control window (10.1). -/
inductive Register where
  | deviceControl
  | base
  | portStatus
  | collectionLimit
  | retiredSet
  | argument (i : Fin 4)
  | command
  | commandStatus
  | result (i : Fin 4)
  | slotStatus (slot : SlotId)
  | slotIdentity (slot : SlotId)
  | slotRequest (slot : SlotId)
  | postingStatus (slot : SlotId)
  | discardedCount (slot : SlotId)
  | slotConfiguration (slot : SlotId)
  | timingProfiles (slot : SlotId)
  | channelRequest (channel : ChannelId)
  | setting (channel : ChannelId) (word : SettingWord)
  | channelStatus (channel : ChannelId)
  | recordConfiguration (channel : ChannelId)
  | recordAddress (channel : ChannelId)
  | recordDisplacement (channel : ChannelId)
  | recordCount (channel : ChannelId)
  | currentAddress (channel : ChannelId)
  | currentDisplacement (channel : ChannelId)
  | currentCount (channel : ChannelId)
  | event (group : EventGroup)
  | enable (group : EventGroup)
  | force (group : EventGroup)
  | eventControl
  | eventStatus
  | faultStatus
  | faultAddress
  | faultCookie
  | faultRelease
deriving DecidableEq, Repr

/-- The registers below 0x100, by word number (10.1). -/
def lowRegister : Nat → Option Register
  | 0 => some .deviceControl
  | 1 => some .base
  | 2 => some .portStatus
  | 3 => some .collectionLimit
  | 4 => some .retiredSet
  | 16 => some (.argument 0)
  | 17 => some (.argument 1)
  | 18 => some (.argument 2)
  | 19 => some (.argument 3)
  | 20 => some .command
  | 21 => some .commandStatus
  | 24 => some (.result 0)
  | 25 => some (.result 1)
  | 26 => some (.result 2)
  | 27 => some (.result 3)
  | _ => none

/-- The registers of a slot, by word number from its first (10.1). -/
def slotRegister (i : SlotId) : Nat → Option Register
  | 0 => some (.slotStatus i)
  | 1 => some (.slotIdentity i)
  | 2 => some (.slotRequest i)
  | 3 => some (.postingStatus i)
  | 4 => some (.discardedCount i)
  | 5 => some (.slotConfiguration i)
  | 6 => some (.timingProfiles i)
  | _ => none

/-- The registers of a channel, by word number from its first (10.1). -/
def channelRegister (c : ChannelId) : Nat → Option Register
  | 0 => some (.channelRequest c)
  | 1 => some (.setting c .control)
  | 2 => some (.setting c .memoryAddress)
  | 3 => some (.setting c .displacement)
  | 4 => some (.setting c .count)
  | 5 => some (.channelStatus c)
  | 6 => some (.recordConfiguration c)
  | 7 => some (.recordAddress c)
  | 8 => some (.recordDisplacement c)
  | 9 => some (.recordCount c)
  | 10 => some (.currentAddress c)
  | 11 => some (.currentDisplacement c)
  | 12 => some (.currentCount c)
  | _ => none

/-- The group of an event, enable or force word, by its number in its five (10.7). -/
def groupAt (n : Nat) : EventGroup := if n < 4 then .slot (quarter n) else .system

/-- The registers from 0x300 on, by word number from there (10.1). -/
def eventRegister (n : Nat) : Option Register :=
  if n < 5 then some (.event (groupAt n))
  else if 8 ≤ n && n < 13 then some (.enable (groupAt (n - 8)))
  else if 16 ≤ n && n < 21 then some (.force (groupAt (n - 16)))
  else
    match n with
    | 24 => some .eventControl
    | 25 => some .eventStatus
    | 28 => some .faultStatus
    | 29 => some .faultAddress
    | 30 => some .faultCookie
    | 31 => some .faultRelease
    | _ => none

/-- The register at a word number of the window (10.1); a location without one holds no register (R92). -/
def registerAt (n : Nat) : Option Register :=
  if n < 64 then lowRegister n
  else if n < 96 then slotRegister (quarter ((n - 64) / 8)) ((n - 64) % 8)
  else if n < 128 then none
  else if n < 192 then channelRegister (quarter ((n - 128) / 16)) ((n - 128) % 16)
  else eventRegister (n - 192)

/-! ## Layouts of the words software reads (10.3 to 10.7) -/

/-- A natural number as a word. -/
def number (n : Nat) : Word := BitVec.ofNat 32 n

/-- The aperture-space base word (10.3). -/
def Port.baseWord (p : Port) : Word := pack [(0, 4, p.region.val), (8, 1, flagBit p.enable)]

/-- The command status word; the port is BUSY exactly while a command is in execution (10.4, R64). -/
def CommandPort.statusWord (p : CommandPort) : Word :=
  pack [(0, 1, flagBit p.executing.isSome), (1, 1, flagBit p.overrun), (8, 4, p.resultCode.code),
        (16, 4, match p.lastAccepted with
                | none => 0
                | some code => code.toNat)]

/-- The slot status word (10.5). -/
def SlotController.statusWord (c : SlotController) : Word :=
  pack [(0, 4, c.state.code), (4, 1, flagBit c.contacts.a), (5, 1, flagBit c.contacts.b),
        (6, 2, switchCode c.switchClass), (8, 1, flagBit c.resetAsserted), (9, 1, flagBit c.badSupply),
        (10, 3, faultKindCode c.faultKind), (13, 3, c.timer.code)]

/-- The slot identity word (10.5). -/
def Identity.word (r : Identity) : Word :=
  pack [(0, 1, flagBit r.present), (1, 1, flagBit r.recognized), (4, 4, r.code), (8, 2, kindCode r.kind),
        (12, 1, flagBit (r.accepts .v1v8)), (13, 1, flagBit (r.accepts .v3v3)), (14, 1, flagBit (r.accepts .v5v0)),
        (16, 16, r.epoch.toNat)]

/-- The slot posting status word (10.5). -/
def PostingUnit.statusWord (p : PostingUnit) : Word :=
  pack [(0, 4, p.queue.length), (4, 3, holderCode p.holder),
        (8, 5, match p.holder with
               | none => 0
               | some r => r.target.handle.val)]

/-- The slot configuration word (10.5). -/
def SlotConfig.word (c : SlotConfig) : Word :=
  pack [(0, 1, flagBit (c.policy == .release)), (8, 8, c.readyLimit), (16, 8, c.waitLimit)]

/-- The eight bits of a timing profile (10.5). -/
def Profile.code (p : Profile) : Nat := p.setup + 4 * p.strobe + 64 * p.hold

/-- The slot timing profiles word (10.5). -/
def SlotConfig.profilesWord (c : SlotConfig) : Word :=
  pack [(0, 8, c.profiles.at0.code), (8, 8, c.profiles.at1.code), (16, 8, c.profiles.at2.code),
        (24, 8, c.profiles.at3.code)]

/-- The channel status word (10.6). -/
def Channel.statusWord (c : Channel) : Word :=
  pack [(0, 3, c.state.code), (3, 1, flagBit c.bound.isSome), (4, 5, handleOrZero c.bound),
        (9, 3, abortCauseCode c.abortCause), (12, 1, flagBit c.mask), (13, 2, c.stopPending.code),
        (15, 1, flagBit c.unitDue), (16, 2, resumeCode c.resumeState), (18, 2, unitCode c.unit),
        (20, 4, c.lastResult.code)]

/-- The channel record's configuration word (10.6). Bits 4:0 keep the handle that the last accepted CONFIGURE stored when
the bound entry becomes FREE and bit 5 clears (R176, R177); that they read 0 after a CONFIGURE naming no entry is the
model's choice (log 24). -/
def Channel.configurationWord (c : Channel) : Word :=
  pack [(0, 5, c.recordHandle.val), (5, 1, flagBit c.bound.isSome), (8, 1, flagBit (c.direction == .fromMemory)),
        (9, 2, c.mode.code), (11, 1, flagBit (c.unitSize == .two)), (12, 1, flagBit (c.memoryStep == .down)),
        (13, 1, flagBit (c.moduleStep == .up)), (14, 1, flagBit c.reload)]

/-- The event control word (10.7). -/
def EventUnit.controlWord (u : EventUnit) : Word :=
  pack [(0, 1, flagBit (u.clearMode == .writeOneClears)), (1, 1, flagBit (u.interruptMode == .pulse))]

/-- The event status word (10.7). -/
def EventUnit.statusWord (u : EventUnit) : Word :=
  pack [(0, 1, flagBit u.output), (4, 1, flagBit u.alertSources.at0), (5, 1, flagBit u.alertSources.at1),
        (6, 1, flagBit u.alertSources.at2), (7, 1, flagBit u.alertSources.at3)]

/-- The fault status word (10.7). -/
def FaultRecord.statusWord (r : FaultRecord) : Word :=
  let f := r.fields
  pack [(0, 1, flagBit r.valid), (1, 1, flagBit r.more), (4, 3, f.kind.code),
        (7, 1, flagBit (f.direction == .write)), (8, 2, sizeCode f.size), (10, 1, flagBit f.partialMark),
        (11, 1, flagBit f.handle.isSome), (12, 5, handleOrZero f.handle), (17, 1, flagBit f.slot.isSome),
        (18, 2, match f.slot with
                | none => 0
                | some i => i.val),
        (20, 1, flagBit f.cookie.isSome)]

/-- The value a read of a register returns; a word that is written only reads 0 (10.1, R178). -/
def State.readRegister (s : State) : Register → Word
  | .deviceControl => 0
  | .base => s.port.baseWord
  | .portStatus => pack [(0, 1, flagBit s.port.configRefused)]
  | .collectionLimit => pack [(0, 4, s.collectionLimit)]
  | .retiredSet => s.retired
  | .argument i => s.command.args.get i
  | .command => 0
  | .commandStatus => s.command.statusWord
  | .result i => s.command.results.get i
  | .slotStatus i => (s.slot i).statusWord
  | .slotIdentity i => (s.slot i).identity.word
  | .slotRequest i => number (s.slot i).lastResult.code
  | .postingStatus i => (s.postingUnit i).statusWord
  | .discardedCount i => pack [(0, 16, (s.postingUnit i).discarded)]
  | .slotConfiguration i => (s.slot i).config.word
  | .timingProfiles i => (s.slot i).config.profilesWord
  | .channelRequest _ => 0
  | .setting c word => (s.settings.get c).get word
  | .channelStatus c => (s.channel c).statusWord
  | .recordConfiguration c => (s.channel c).configurationWord
  | .recordAddress c => (s.channel c).baseAddress
  | .recordDisplacement c => pack [(0, 28, (s.channel c).baseDisplacement)]
  | .recordCount c => pack [(0, 17, (s.channel c).baseCount)]
  | .currentAddress c => (s.channel c).currentAddress
  | .currentDisplacement c => pack [(0, 28, (s.channel c).currentDisplacement)]
  | .currentCount c => pack [(0, 17, (s.channel c).currentCount)]
  | .event g => s.events.flags.get g
  | .enable g => s.events.enables.get g
  | .force _ => 0
  | .eventControl => s.events.controlWord
  | .eventStatus => s.events.statusWord
  | .faultStatus => s.events.fault.statusWord
  | .faultAddress => s.events.fault.fields.address
  | .faultCookie => s.events.fault.fields.cookie.getD 0
  | .faultRelease => 0

/-! ## Reads and writes of a location -/

/-- A read of a word location: it is answered with the word's value, and an event word may be cleared by it (R92,
R164). -/
def State.readWindow (s : State) (n : Nat) : State :=
  match registerAt n with
  | none => s.answered (windowData 0)
  | some (.event g) => s.readEventWord g
  | some r => s.answered (windowData (s.readRegister r))

/-- A write of the device control word: a soft reset, or a channel clear, or nothing (R174). -/
def State.writeDeviceControl (s : State) (value : Word) (lines : Lines) : State :=
  if value.getLsbD 0 then s.softReset else if value.getLsbD 1 then s.channelClear lines else s

/-- The effect of a write on the register at its location (10.1, R178). -/
def State.writeRegister (s : State) (r : Register) (value : Word) (lines : Lines) : State :=
  match r with
  | .deviceControl => s.writeDeviceControl value lines
  | .base => s.writeBase value
  | .portStatus => s.writePortStatus value
  | .collectionLimit => s.writeCollectionLimit value
  | .retiredSet => s.writeRetired value
  | .argument i => s.writeArgument i value
  | .command => s.writeCommand value
  | .commandStatus => s.writeCommandStatus value
  | .result _ => s
  | .slotStatus _ => s
  | .slotIdentity _ => s
  | .slotRequest i => s.slotRequest i value lines
  | .postingStatus _ => s
  | .discardedCount i => s.clearDiscarded i
  | .slotConfiguration i => s.writeSlotConfig i value
  | .timingProfiles i => s.writeProfiles i value
  | .channelRequest c => s.channelRequest c value lines
  | .setting c word => s.writeSetting c word value
  | .channelStatus _ => s
  | .recordConfiguration _ => s
  | .recordAddress _ => s
  | .recordDisplacement _ => s
  | .recordCount _ => s
  | .currentAddress _ => s
  | .currentDisplacement _ => s
  | .currentCount _ => s
  | .event g => s.writeEventWord g value
  | .enable g => s.writeEnableWord g value
  | .force g => s.writeForceWord g value
  | .eventControl => s.writeEventControl value
  | .eventStatus => s
  | .faultStatus => s
  | .faultAddress => s
  | .faultCookie => s
  | .faultRelease => s.releaseFault

/-- A write of a word location: it is answered OK, and a location without a register takes nothing (R92). -/
def State.writeWindow (s : State) (n : Nat) (value : Word) (lines : Lines) : State :=
  match registerAt n with
  | none => s.answered .ok
  | some r => (s.writeRegister r value lines).answered .ok

/-- CONTROL_WINDOW_WRITE: a 4-byte write at a byte offset of the window; at one that is not a multiple of 4 it is answered
ERROR(ALIGN) (R92; log 8). -/
def execControlWindowWrite (offset : BitVec 12) (value : Word) (lines : Lines) (s : State) : Result :=
  if offset.toNat % 4 = 0 then .next (s.writeWindow (offset.toNat / 4) value lines)
  else .next (s.answered (.error .align))

end Sys2Proof.Machine
end

