-- ==== Sys2Proof/Machine/Port.lean ====
section
/-! DEFINITION. The target side of the system port (05): the decode of an access, the lookup and the answer for each entry
state, acceptance, the held-read protocol and the offers to the access fault record. -/

namespace Sys2Proof.Machine

/-! ## Refusals (R97, R100) -/

/-- The offer of a refused access that no entry covers (R100). -/
def unmappedOffer (a : Access) : FaultOffer :=
  { kind := .unmapped, direction := a.direction, address := a.address, size := a.size, handle := none, slot := none,
    cookie := none, partialMark := false }

/-- The offer of an access refused at its covering entry (R100). -/
def entryOffer (kind : AccessFaultKind) (a : Access) (h : Handle) (e : Entry) : FaultOffer :=
  { kind := kind, direction := a.direction, address := a.address, size := a.size, handle := some h,
    slot := some e.slot, cookie := e.cookie, partialMark := false }

/-- A refused access: its fault is offered and its error answered, with no other effect (R97, R98, R100). -/
def State.refuse (s : State) (o : FaultOffer) (code : ErrorCode) : State := ((s.offer o).settle).answered (.error code)

/-! ## Acceptance (R98, R99, R101, R109, R115) -/

/-- The offset of an address within an entry's aperture (R42). -/
def State.offsetIn (s : State) (e : Entry) (address : Word) : Nat :=
  s.port.apertureOffset address - Config.granuleBytes * e.firstGranule

/-- The translation captured at the acceptance of an access (R101). -/
def State.translation (s : State) (a : Access) (h : Handle) (e : Entry) : Target :=
  { handle := h, space := e.space, moduleAddress := e.translate (s.offsetIn e a.address), width := e.width,
    timingClass := e.timingClass, size := a.size }

/-- The queue item of an accepted write (R101, R108). -/
def State.itemOf (s : State) (a : Access) (h : Handle) (e : Entry) : QueueItem :=
  { target := s.translation a h e, systemAddress := a.address, data := bytesFromLanes a.address a.size a.data }

/-- A posting unit with an item at its tail (R109). -/
def PostingUnit.append (p : PostingUnit) (item : QueueItem) : PostingUnit := { p with queue := p.queue ++ [item] }

/-- An accepted write: answered OK, appended and counted; the sequencer may begin it (R98, R109, R126). -/
def State.acceptWrite (s : State) (a : Access) (h : Handle) (lines : Lines) : State :=
  let e := s.entry h
  ((((s.setPosting e.slot ((s.postingUnit e.slot).append (s.itemOf a h e))).acceptThrough h).choose e.slot
    lines).settle).answered .ok

/-- A captured read: answered RETRY, held behind the writes then queued, and counted; the sequencer may begin it (R99,
R115, R126). -/
def State.captureRead (s : State) (a : Access) (h : Handle) (lines : Lines) : State :=
  let e := s.entry h
  let p := s.postingUnit e.slot
  let held : HeldRead :=
    { target := s.translation a h e, systemAddress := a.address, state := .waiting p.queue.length }
  ((((s.setPosting e.slot { p with holder := some held }).acceptThrough h).choose e.slot lines).settle).answered .retry

/-! ## The held-read protocol (R99, R117) -/

/-- Whether a read presented at the port matches a held read: the same system address and size (R117). -/
def HeldRead.isMatch (r : HeldRead) (a : Access) : Bool :=
  a.direction == .read && r.systemAddress == a.address && r.target.size == a.size

/-- The answer to a matching attempt; in READY and FAILED it is the collection (R99, R117). -/
def State.answerHeld (s : State) (i : SlotId) (r : HeldRead) : State :=
  match r.state with
  | .waiting _ => s.answered .retry
  | .issued => s.answered .retry
  | .ready data =>
    ((s.emptyHolder i r).settle).answered (.okData (lanesOfBytes r.systemAddress r.target.size data))
  | .failed => ((s.emptyHolder i r).settle).answered (.error .timeout)

/-! ## Lookup and answer (R96) -/

/-- The held read that an access matches, of the slot of its covering entry (R96, step 1). -/
def State.heldMatch (s : State) (a : Access) (h : Handle) : Option HeldRead :=
  match (s.postingUnit (s.entry h).slot).holder with
  | none => none
  | some r => if r.isMatch a then some r else none

/-- An access whose covering entry is LIVE (R98, R99). -/
def State.liveAccess (s : State) (a : Access) (h : Handle) (lines : Lines) : State :=
  let e := s.entry h
  match a.direction with
  | .write =>
    if e.access = .readOnly then s.refuse (entryOffer .writeProtected a h e) .writeProtected
    else if Config.queueSize ≤ (s.postingUnit e.slot).queue.length then s.answered .retry
    else s.acceptWrite a h lines
  | .read =>
    match (s.postingUnit e.slot).holder with
    | none => s.captureRead a h lines
    | some _ => s.answered .retry

/-- An aligned aperture-space access with its covering entry, past step 2 of R96. -/
def State.coveredAccess (s : State) (a : Access) (h : Handle) (lines : Lines) : State :=
  let e := s.entry h
  match s.heldMatch a h with
  | some r => s.answerHeld e.slot r
  | none =>
    match e.state with
    | .staged => s.refuse (entryOffer .notLive a h e) .notLive
    | .fenced => s.refuse (entryOffer .fenced a h e) .fenced
    | .orphaned => s.refuse (entryOffer .orphaned a h e) .orphaned
    | .live => s.liveAccess a h lines
    | .free => s.refuse (unmappedOffer a) .unmapped

/-- An aligned aperture-space access (R96). -/
def State.apertureAccess (s : State) (a : Access) (lines : Lines) : State :=
  match s.covering (s.port.apertureOffset a.address / Config.granuleBytes) with
  | none => s.refuse (unmappedOffer a) .unmapped
  | some h => s.coveredAccess a h lines

/-! ## Decode (R91, R92, R95) -/

/-- The kinds of a system address at the target side (R91). -/
inductive AddressKind where
  | window
  | aperture
  | unclaimed
deriving DecidableEq, Repr

/-- The kind of an address: the window first, then enabled aperture space (R91, R95). -/
def Port.kindOf (p : Port) (address : Word) : AddressKind :=
  if p.inWindow address then .window
  else if p.enable && p.inAperture address then .aperture
  else .unclaimed

/-- Whether an access is naturally aligned (R95). -/
def Access.aligned (a : Access) : Bool := a.address.toNat % a.size.bytes == 0

/-- A control-window access: 4 bytes at a multiple of 4, or answered ERROR(ALIGN) (R92). -/
def State.windowAccess (s : State) (a : Access) (lines : Lines) : State :=
  if a.size = .four && Access.aligned a then
    match a.direction with
    | .read => s.readWindow ((a.address.toNat - s.port.windowStart) / 4)
    | .write => s.writeWindow ((a.address.toNat - s.port.windowStart) / 4) a.data lines
  else s.answered (.error .align)

/-- The decision of any access at the target side of the system port (R91 to R95). -/
def State.portAccess (s : State) (a : Access) (lines : Lines) : State :=
  match s.port.kindOf a.address with
  | .window => s.windowAccess a lines
  | .aperture => if Access.aligned a then s.apertureAccess a lines else s.answered (.error .align)
  | .unclaimed => s.answered (.error .unclaimed)

/-! ## The four access commands: the port decides each by its address (log 7) -/

/-- APERTURE_WRITE (R98). -/
def execApertureWrite (address : Word) (size : Size) (data : Word) (lines : Lines) (s : State) : Result :=
  .next (s.portAccess { direction := .write, address := address, size := size, data := data } lines)

/-- APERTURE_READ (R99). -/
def execApertureRead (address : Word) (size : Size) (lines : Lines) (s : State) : Result :=
  .next (s.portAccess { direction := .read, address := address, size := size, data := 0 } lines)

/-- UNCLAIMED_ACCESS (R91). -/
def execUnclaimedAccess (a : Access) (lines : Lines) (s : State) : Result := .next (s.portAccess a lines)

/-- CONTROL_WINDOW_MISALIGNED (R92). -/
def execControlWindowMisaligned (a : Access) (lines : Lines) (s : State) : Result := .next (s.portAccess a lines)

end Sys2Proof.Machine
end

