-- ==== Sys2Proof/Machine/Dispatch.lean ====
section
/-! DEFINITION. The dispatch: one arm per command, each one direct call of its meaning. -/

namespace Sys2Proof.Machine

/-- The effect of a command on everything but the queue. -/
def exec (i : Instr) (s : State) : Host.Outcome State Fault Refusal :=
  match i with
  | .powerOnReset straps contacts => Sys2Proof.Machine.execPowerOnReset straps contacts s
  | .softReset => Sys2Proof.Machine.execSoftReset s
  | .channelClear lines => Sys2Proof.Machine.execChannelClear lines s
  | .presenceChange slot contact => Sys2Proof.Machine.execPresenceChange slot contact s
  | .settleExpiry slot => Sys2Proof.Machine.execSettleExpiry slot s
  | .probeLowSample slot k1 k2 => Sys2Proof.Machine.execProbeLowSample slot k1 k2 s
  | .identificationRoundEnd slot k1 k2 => Sys2Proof.Machine.execIdentificationRoundEnd slot k1 k2 s
  | .supply slot supplyClass lines => Sys2Proof.Machine.execSupply slot supplyClass lines s
  | .supplyOff slot => Sys2Proof.Machine.execSupplyOff slot s
  | .probe slot => Sys2Proof.Machine.execProbe slot s
  | .badRequest slot value => Sys2Proof.Machine.execBadRequest slot value s
  | .slotConfigurationWrite slot value => Sys2Proof.Machine.execSlotConfigurationWrite slot value s
  | .timingProfilesWrite slot value => Sys2Proof.Machine.execTimingProfilesWrite slot value s
  | .powerGoodAssertion slot => Sys2Proof.Machine.execPowerGoodAssertion slot s
  | .powerGoodLimitExpiry slot => Sys2Proof.Machine.execPowerGoodLimitExpiry slot s
  | .resetPulseExpiry slot lines => Sys2Proof.Machine.execResetPulseExpiry slot lines s
  | .readyAssertion slot lines => Sys2Proof.Machine.execReadyAssertion slot lines s
  | .readyLimitExpiry slot => Sys2Proof.Machine.execReadyLimitExpiry slot s
  | .overcurrent slot => Sys2Proof.Machine.execOvercurrent slot s
  | .powerGoodLoss slot => Sys2Proof.Machine.execPowerGoodLoss slot s
  | .alertLineChange slot asserted => Sys2Proof.Machine.execAlertLineChange slot asserted s
  | .changeLineEdge slot rising => Sys2Proof.Machine.execChangeLineEdge slot rising s
  | .commandAcceptance value => Sys2Proof.Machine.execCommandAcceptance value s
  | .commandStatusWrite value => Sys2Proof.Machine.execCommandStatusWrite value s
  | .create => Sys2Proof.Machine.execCreate s
  | .activate => Sys2Proof.Machine.execActivate s
  | .amend => Sys2Proof.Machine.execAmend s
  | .retire => Sys2Proof.Machine.execRetire s
  | .rebind => Sys2Proof.Machine.execRebind s
  | .query => Sys2Proof.Machine.execQuery s
  | .find => Sys2Proof.Machine.execFind s
  | .sweep => Sys2Proof.Machine.execSweep s
  | .unusedCommand => Sys2Proof.Machine.execUnusedCommand s
  | .retiredHandleSetWrite value => Sys2Proof.Machine.execRetiredHandleSetWrite value s
  | .apertureWrite address size data lines => Sys2Proof.Machine.execApertureWrite address size data lines s
  | .apertureRead address size lines => Sys2Proof.Machine.execApertureRead address size lines s
  | .unclaimedAccess access lines => Sys2Proof.Machine.execUnclaimedAccess access lines s
  | .controlWindowMisaligned access lines => Sys2Proof.Machine.execControlWindowMisaligned access lines s
  | .apertureSpaceBaseWrite value => Sys2Proof.Machine.execApertureSpaceBaseWrite value s
  | .portStatusWrite value => Sys2Proof.Machine.execPortStatusWrite value s
  | .collectionLimitWrite value => Sys2Proof.Machine.execCollectionLimitWrite value s
  | .discardedWriteCountWrite slot value => Sys2Proof.Machine.execDiscardedWriteCountWrite slot value s
  | .accessCompletion slot lines => Sys2Proof.Machine.execAccessCompletion slot lines s
  | .waitTimeout slot lines => Sys2Proof.Machine.execWaitTimeout slot lines s
  | .collectionTimerExpiry slot => Sys2Proof.Machine.execCollectionTimerExpiry slot s
  | .configure channel => Sys2Proof.Machine.execConfigure channel s
  | .arm channel lines => Sys2Proof.Machine.execArm channel lines s
  | .start channel lines => Sys2Proof.Machine.execStart channel lines s
  | .pause channel => Sys2Proof.Machine.execPause channel s
  | .resume channel lines => Sys2Proof.Machine.execResume channel lines s
  | .cancel channel => Sys2Proof.Machine.execCancel channel s
  | .unmask channel lines => Sys2Proof.Machine.execUnmask channel lines s
  | .channelBadRequest channel value => Sys2Proof.Machine.execChannelBadRequest channel value s
  | .channelSettingWrite channel word value => Sys2Proof.Machine.execChannelSettingWrite channel word value s
  | .transferRequestAssertion slot lines => Sys2Proof.Machine.execTransferRequestAssertion slot lines s
  | .memoryAnswer channel answer lines => Sys2Proof.Machine.execMemoryAnswer channel answer lines s
  | .eventWordRead group => Sys2Proof.Machine.execEventWordRead group s
  | .eventWordWrite group value => Sys2Proof.Machine.execEventWordWrite group value s
  | .enableWordWrite group value => Sys2Proof.Machine.execEnableWordWrite group value s
  | .forceWordWrite group value => Sys2Proof.Machine.execForceWordWrite group value s
  | .eventControlWrite value => Sys2Proof.Machine.execEventControlWrite value s
  | .faultRelease value => Sys2Proof.Machine.execFaultRelease value s
  | .pulseEnd => Sys2Proof.Machine.execPulseEnd s
  | .gapEnd => Sys2Proof.Machine.execGapEnd s
  | .controlWindowWrite offset value lines => Sys2Proof.Machine.execControlWindowWrite offset value lines s
  | .waitSample slot waiting dataLines => Sys2Proof.Machine.execWaitSample slot waiting dataLines s
  | .moduleCycleEnd slot => Sys2Proof.Machine.execModuleCycleEnd slot s

end Sys2Proof.Machine
end

