-- ==== Sys2Proof/Safety.lean ====
section
/-! DEFINITION. The laws the spec states over the part's state: the predicates that statements and provers use. -/

namespace Sys2Proof.Machine

/-! ## The interrupt output (R167, R168) -/

/-- Whether a pulse is being given. -/
def PulsePhase.pulsing : PulsePhase → Bool
  | .idle => false
  | .inPulse _ => true
  | .inGap _ => false

/-- The law of the interrupt output. In LEVEL mode the output follows the flags and enables, nothing is owed and the
phase is IDLE (R167). In PULSE mode the output is asserted in IN_PULSE alone, with the phase IDLE nothing is owed, and at
most 255 pulses are owed (R168). -/
abbrev EventUnit.OutputLaw (u : EventUnit) : Prop :=
  (u.interruptMode = .level → u.output = u.anyEnabled ∧ u.pulsesOwed = 0 ∧ u.pulsePhase = .idle) ∧
  (u.interruptMode = .pulse →
    u.output = u.pulsePhase.pulsing ∧ (u.pulsePhase = .idle → u.pulsesOwed = 0) ∧ u.pulsesOwed ≤ Config.pulsesMax)

/-! ## The flags that one event raises (R159, R168) -/

/-- The five words of event flags. -/
def eventGroups : List EventGroup := [.slot 0, .slot 1, .slot 2, .slot 3, .system]

/-- How many enabled flags are set in `m` and clear in `u`: the 0-to-1 changes that owe pulses (R168). -/
def EventUnit.newlySet (u m : EventUnit) : Nat :=
  (eventGroups.map (fun g => (List.range 32).countP (fun p =>
    (m.flags.get g).getLsbD p && !(u.flags.get g).getLsbD p && (u.enables.get g).getLsbD p))).sum

/-- Event unit `m` is `u` after the flags that `new` names are raised: exactly these become or stay set, in PULSE mode each
0-to-1 change of an enabled flag owes a pulse up to 255, and all else is as it was (R159, R168). -/
structure EventUnit.Raised (u m : EventUnit) (new : Flag → Prop) : Prop where
  flags : ∀ (g : EventGroup) (p : Nat),
    (m.flags.get g).getLsbD p = true ↔ (u.flags.get g).getLsbD p = true ∨ new ⟨g, p⟩
  owed : m.pulsesOwed =
    if u.interruptMode = .level ∨ u.newlySet m = 0 then u.pulsesOwed else min 255 (u.pulsesOwed + u.newlySet m)
  rest : m = { u with flags := m.flags, pulsesOwed := m.pulsesOwed }

/-! ## The slot controller (R8, R13, R15, R21, R23, R28, R33) -/

/-- Whether a slot is in one of the powered states or FAULTED, which are reached from IDENTIFIED alone (R15). -/
def SlotState.powered : SlotState → Bool
  | .powering => true
  | .resetting => true
  | .active => true
  | .faulted => true
  | .empty => false
  | .settling => false
  | .misseated => false
  | .probing => false
  | .unrecognized => false
  | .identified => false

/-- Whether a timer is one that a slot in the given state has: which one runs, or none (01, 1.1; 02, 2.1). -/
def SlotTimer.fits (t : SlotTimer) (state : SlotState) : Bool :=
  match state, t with
  | .settling, .running .settle _ => true
  | .powering, .running .powerGoodLimit _ => true
  | .resetting, .running .resetPulse _ => true
  | .resetting, .running .readyLimit _ => true
  | .settling, _ => false
  | .powering, _ => false
  | .resetting, _ => false
  | _, .stopped => true
  | _, .running _ _ => false

/-- Whether the switch class is one of the supply set (R28). -/
def SlotController.classAccepted (c : SlotController) : Bool :=
  match c.switchClass with
  | none => true
  | some k => c.identity.accepts k

/-- The law of a slot controller: the switch is on exactly in POWERING, RESETTING and ACTIVE and then at a class of the
supply set (R21, R28); the module reset line is released exactly in ACTIVE and in RESETTING after its pulse (R21); the
timer is that of the state; probing progress is present exactly in PROBING; the fault kind is present exactly in FAULTED
(R33); the bad-supply flag is set in IDENTIFIED alone or after it without power (R23); and IDENTIFIED and the powered
states have a recognized, present identity (R15). -/
abbrev SlotController.Lawful (c : SlotController) : Prop :=
  (c.switchClass.isSome = c.state.switchOn) ∧
  (c.resetAsserted = false ↔ c.state = .active ∨ (c.state = .resetting ∧ c.timerIs .readyLimit = true)) ∧
  c.timer.fits c.state = true ∧
  (c.probing.isSome ↔ c.state = .probing) ∧
  (c.faultKind.isSome ↔ c.state = .faulted) ∧
  (c.state.powered = true → c.badSupply = false) ∧
  (c.state.powered = true ∨ c.state = .identified → c.identity.present = true ∧ c.identity.recognized = true) ∧
  c.classAccepted = true

/-- The slot law, for all four slots. -/
abbrev State.SlotLaw (s : State) : Prop := ∀ i : SlotId, (s.slot i).Lawful

/-! ## The aperture table (R41, R44, R45) -/

/-- Whether an entry's range is valid for its space (R44). -/
def Entry.validRange (e : Entry) : Bool :=
  decide (1 ≤ e.granuleCount) && decide (e.firstGranule + e.granuleCount ≤ Config.granules) &&
    (e.space != .port || decide (e.granuleCount ≤ 16))

/-- The law of one entry: a FREE entry holds its zero fields (R41), any other a valid range (R44). -/
abbrev Entry.Lawful (e : Entry) : Prop := (e.state = .free → e = Entry.free) ∧ (e.state ≠ .free → e.validRange = true)

/-- Whether two entries that are not FREE share a granule (R45). -/
def Entry.overlaps (e f : Entry) : Bool :=
  e.state != .free && f.state != .free && rangesShare e.firstGranule e.granuleCount f.firstGranule f.granuleCount

/-- The table law: every entry is lawful, and no two that are not FREE share a granule (R41, R44, R45). -/
abbrev State.TableLaw (s : State) : Prop :=
  (∀ h : Handle, (s.entry h).Lawful) ∧ ∀ h k : Handle, h ≠ k → (s.entry h).overlaps (s.entry k) = false

/-! ## Sessions and work in flight (R46, R50, R123) -/

/-- How many items of a posting unit name a handle: queued writes, and a held read (R50). -/
def PostingUnit.naming (p : PostingUnit) (h : Handle) : Nat :=
  p.queue.countP (fun item => item.target.handle == h) +
    match p.holder with
    | none => 0
    | some r => if r.target.handle = h then 1 else 0

/-- An entry agrees with its slot: LIVE and FENCED mean an ACTIVE slot at the bound epoch (R46). -/
abbrev State.SessionLaw (s : State) : Prop :=
  ∀ h : Handle, (s.entry h).state = .live ∨ (s.entry h).state = .fenced →
    (s.slot (s.entry h).slot).state = .active ∧
      (s.entry h).boundEpoch = some (s.slot (s.entry h).slot).identity.epoch

/-- The in-flight law: the count of an entry is the number of items of its slot that name it (R50); a count above 0 is
found in LIVE and FENCED alone, and FENCED has one (R51). -/
abbrev State.InFlightLaw (s : State) : Prop :=
  ∀ h : Handle,
    (s.entry h).inFlight = (s.postingUnit (s.entry h).slot).naming h ∧
    ((s.entry h).inFlight ≠ 0 → (s.entry h).state = .live ∨ (s.entry h).state = .fenced) ∧
    ((s.entry h).state = .fenced → (s.entry h).inFlight ≠ 0)

/-- Every item of a posting unit names an entry of its slot (R101: the slot is not carried separately). -/
abbrev State.NamesLaw (s : State) : Prop :=
  ∀ (i : SlotId) (h : Handle), (s.postingUnit i).naming h ≠ 0 → (s.entry h).slot = i

/-- The laws between slots, table and posting units, together with the slot law they need (R46, R50, R51). -/
abbrev State.Coherent (s : State) : Prop := s.SlotLaw ∧ s.SessionLaw ∧ s.InFlightLaw ∧ s.NamesLaw

/-- Queue and holder are empty whenever the slot is not ACTIVE (R123). -/
abbrev State.EmptyWhenInactive (s : State) : Prop :=
  ∀ i : SlotId, (s.slot i).state ≠ .active → (s.postingUnit i).queue = [] ∧ (s.postingUnit i).holder = none

/-! ## Posting unit and sequencer (R110, R114) -/

/-- Whether a sequencer carries out a head write. -/
def Sequencer.runsWrite (q : Sequencer) : Bool :=
  match q.access with
  | none => false
  | some a => a.source == .headWrite

/-- Whether a sequencer carries out a held read. -/
def Sequencer.runsRead (q : Sequencer) : Bool :=
  match q.access with
  | none => false
  | some a => a.source == .heldRead

/-- Whether the holder is ISSUED. -/
def PostingUnit.issued (p : PostingUnit) : Bool :=
  match p.holder with
  | none => false
  | some r => r.state == .issued

/-- Whether the holder is READY or FAILED. -/
def PostingUnit.finished (p : PostingUnit) : Bool :=
  match p.holder with
  | none => false
  | some r => r.finished

/-- The writes ahead of a WAITING held read; 0 otherwise. -/
def PostingUnit.ahead (p : PostingUnit) : Nat :=
  match p.holder with
  | none => 0
  | some r =>
    match r.state with
    | .waiting n => n
    | .issued => 0
    | .ready _ => 0
    | .failed => 0

/-- The law of a slot's posting unit and sequencer: head in progress is set exactly while the sequencer carries out the
head item, which then stands in the queue (R110); the holder is ISSUED exactly while the sequencer carries out the held
read (R116); the collection timer runs exactly in READY and FAILED (R114); the writes ahead are at most the items queued
(R110); and the queue holds at most 8 items, the count at most 65,535 (R108, R113). -/
abbrev State.PostingLaw (s : State) : Prop :=
  ∀ i : SlotId,
    (s.postingUnit i).headInProgress = (s.sequencer i).runsWrite ∧
    ((s.postingUnit i).headInProgress = true → (s.postingUnit i).queue ≠ []) ∧
    (s.postingUnit i).issued = (s.sequencer i).runsRead ∧
    (s.postingUnit i).collectionTimer.isSome = (s.postingUnit i).finished ∧
    (s.postingUnit i).ahead ≤ (s.postingUnit i).queue.length ∧
    (s.postingUnit i).queue.length ≤ Config.queueSize ∧
    (s.postingUnit i).discarded ≤ Config.discardedMax

/-! ## Channels (R140, R142, 8.2) -/

/-- Whether a channel's bound entry lets it be active: LIVE, and for FROM_MEMORY READ_WRITE (R142). -/
def State.entryServes (s : State) (c : ChannelId) : Bool :=
  match (s.channel c).bound with
  | none => false
  | some h =>
    (s.entry h).state == .live &&
      ((s.channel c).direction == .toMemory || (s.entry h).access == .readWrite)

/-- The channel law: an active channel is bound to a LIVE entry that serves its direction (R142), a unit in progress is
found in RUNNING alone (8.2), and the record's configuration word shows the handle of the entry bound (R176). -/
abbrev State.ChannelLaw (s : State) : Prop :=
  ∀ c : ChannelId,
    ((s.channel c).isActive = true → s.entryServes c = true) ∧
    ((s.channel c).unit.isSome = true → (s.channel c).state = .running) ∧
    ∀ h, (s.channel c).bound = some h → (s.channel c).recordHandle = h

/-- Whether a channel's unit in progress is in its memory half. -/
def Channel.inMemoryHalf (c : Channel) : Bool :=
  match c.unit with
  | none => false
  | some u => u.half == .memoryHalf

/-- Whether a channel's unit in progress is in a module half that the sequencer has begun. -/
def Channel.inBegunHalf (c : Channel) : Bool :=
  match c.unit with
  | none => false
  | some u => u.half == .moduleHalf && u.moduleBegun

/-- The channel whose module half a sequencer carries out, with the direction of the access. -/
def Sequencer.runsHalf (q : Sequencer) : Option (ChannelId × Direction) :=
  match q.access with
  | none => none
  | some a =>
    match a.source with
    | .headWrite => none
    | .heldRead => none
    | .channelHalf c => some (c, a.direction)

/-- The halves law: the master side holds a memory access of a channel exactly while its unit is in the memory half, and
a sequencer carries out a module half only of a channel of its slot whose unit is in that half, in the direction of the
channel (R104, R134, R152). -/
abbrev State.HalfLaw (s : State) : Prop :=
  (∀ c : ChannelId, (s.memoryRecord c).isSome = (s.channel c).inMemoryHalf) ∧
  ∀ (i : SlotId) (c : ChannelId) (d : Direction), (s.sequencer i).runsHalf = some (c, d) →
    s.channelSlot c = some i ∧ (s.channel c).inBegunHalf = true ∧ (s.channel c).direction.moduleDirection = d

/-- The counts of every channel: current at most base, base at most 65,536 (R142). -/
abbrev State.CountLaw (s : State) : Prop :=
  ∀ c : ChannelId, (s.channel c).currentCount ≤ (s.channel c).baseCount ∧ (s.channel c).baseCount ≤ 65536

/-- Whether a memory access record's retry count is 0 to 256 (R105). -/
def retriesBounded (m : Option MemoryAccess) : Bool :=
  match m with
  | none => true
  | some a => a.retries ≤ Config.retryMax

/-- The retry counts of the memory access records: 0 to 256 (R105). -/
abbrev State.RetryLaw (s : State) : Prop := ∀ c : ChannelId, retriesBounded (s.memoryRecord c) = true

/-! ## A session end as the other blocks take it (R36, R53, R122, R127, R138, R155) -/

/-- The posting unit after the purge of a session end whose cause is not SOFT_RESET (R122). -/
def PostingUnit.purged (p : PostingUnit) : PostingUnit :=
  { queue := [], headInProgress := false, holder := none, collectionTimer := none,
    discarded := min 65535 (p.discarded + p.queue.length) }

/-- Whether a session end of its slot under a policy frees an entry (R53). -/
def Entry.freedAtEnd (e : Entry) (policy : RemovalPolicy) : Bool :=
  match e.state with
  | .fenced => true
  | .live => policy == .release
  | .orphaned => policy == .release
  | .staged => false
  | .free => false

/-- A channel after the session end of its slot: aborted if it was active, and masked; its binding is lost if the entry
was freed (R155, R157). -/
def Channel.sessionEnded (c : Channel) (freed : Bool) : Channel :=
  { c with
    mask := true
    bound := if freed then none else c.bound
    state := if c.isActive then .aborted else c.state
    abortCause := if c.isActive then some .sessionEnd else c.abortCause
    unit := if c.isActive then none else c.unit
    stopPending := if c.isActive then .none else c.stopPending
    resumeState := if c.isActive then none else c.resumeState
    unitDue := if c.isActive then false else c.unitDue }

/-- Whether the entry a channel is bound to is freed by the session end of slot `i`. -/
def State.loses (s : State) (i : SlotId) (c : ChannelId) : Bool :=
  match (s.channel c).bound with
  | none => false
  | some h => (s.entry h).slot == i && (s.entry h).freedAtEnd (s.slot i).config.policy

/-- State `t` is state `s` after the session end of slot `i`, as every block but the slot controller and the event unit
takes it: the posting unit purged (R122), the sequencer idle with preference SYSTEM (R127, R138), the slot's entries
moved by the removal policy with their counts 0 and the FENCED ones retired (R53, R54), and the slot's channels aborted
and masked (R155); every other slot's posting unit, sequencer, entries and channels, the port, the command port, the
setting words and the collection limit as they were. -/
structure State.SessionEnded (s t : State) (i : SlotId) (epoch : BitVec 16) : Prop where
  posting : t.postingUnit i = (s.postingUnit i).purged
  otherPosting : ∀ j, j ≠ i → t.postingUnit j = s.postingUnit j
  sequencer : t.sequencer i = Sequencer.initial
  otherSequencers : ∀ j, j ≠ i → t.sequencer j = s.sequencer j
  entries : ∀ h, t.entry h =
    if (s.entry h).slot = i then
      if (s.entry h).freedAtEnd (s.slot i).config.policy then Entry.free
      else if (s.entry h).state = .free then s.entry h
      else if (s.entry h).state = .live then
        { s.entry h with state := .orphaned, boundEpoch := some epoch, inFlight := 0 }
      else { s.entry h with inFlight := 0 }
    else s.entry h
  retired : ∀ h : Handle, t.retired.getLsbD h.val =
    (s.retired.getLsbD h.val || ((s.entry h).slot == i && (s.entry h).state == .fenced))
  channels : ∀ c, t.channel c =
    if s.channelSlot c = some i then (s.channel c).sessionEnded (s.loses i c) else s.channel c
  memory : ∀ c, t.memoryRecord c =
    if s.channelSlot c = some i ∧ (s.channel c).isActive = true then none else s.memoryRecord c
  port : t.port = s.port
  command : t.command = s.command
  settings : t.settings = s.settings
  collectionLimit : t.collectionLimit = s.collectionLimit

/-! ## Accesses -/

/-- The row of the table that carries an aperture access: APERTURE_WRITE or APERTURE_READ. -/
def accessCommand (a : Access) (l : Lines) : Instr :=
  match a.direction with
  | .write => .apertureWrite a.address a.size a.data l
  | .read => .apertureRead a.address a.size l

/-- Whether an access goes to lookup: outside the control window, in enabled aperture space, naturally aligned (R91,
R95). -/
abbrev State.looksUp (s : State) (a : Access) : Prop :=
  s.port.kindOf a.address = .aperture ∧ a.address.toNat % a.size.bytes = 0

/-- The entry that covers the address of an access, if there is one (R43, R61). -/
def State.coveringEntry (s : State) (a : Access) : Option Handle :=
  s.covering ((a.address.toNat - 268435456 * s.port.region.val) / 4096)

/-- Whether an access is a matching attempt on a held read (R117). -/
abbrev HeldRead.matchedBy (r : HeldRead) (a : Access) : Prop :=
  a.direction = .read ∧ r.systemAddress = a.address ∧ r.target.size = a.size

/-- The translation of an access through an entry (R42, R101). -/
def State.captured (s : State) (a : Access) (h : Handle) : Target :=
  let e := s.entry h
  { handle := h, space := e.space
    moduleAddress :=
      (a.address.toNat - 268435456 * s.port.region.val - 4096 * e.firstGranule + e.moduleOffset) %
        (if e.space = .port then 65536 else 67108864)
    width := e.width, timingClass := e.timingClass, size := a.size }

/-- The access a slot's sequencer has in progress right after it began (R129, R130). -/
def State.begun (s : State) (i : SlotId) (source : AccessSource) (direction : Direction) (target : Target) (data : Word)
    (l : Lines) : BusAccess :=
  let c := (s.slot i).config
  let p := c.profiles.get target.timingClass
  { source := source, direction := direction, target := target, data := data
    plan := cyclePlan target (l.get i).widthSense, index := 0
    phase := if p.setup = 0 then .strobe else .setup
    periods := if p.setup = 0 then p.strobe else p.setup
    profile := p, waitLimit := 1000 * c.waitLimit }

/-- Whether an outcome is a next state that satisfies a property. -/
def nextSatisfies (p : State → Prop) (r : Result) : Prop :=
  match r with
  | .next t => p t
  | .fault _ => False
  | .refused _ => False

end Sys2Proof.Machine
end

