-- ==== Sys2Proof/WellFormed.lean ====
section
/-! DEFINITION. Which commands carry the operands that their rows of the opcode table name. -/

namespace Sys2Proof

/-- Whether a slot request word carries an unused request code or an unused class (R17, 10.5). -/
def badSlotRequest (value : Word) : Bool := Machine.slotRequestOf value == .unused

/-- Whether a channel request word carries an unused request code (R143, 10.6). -/
def badChannelRequest (value : Word) : Bool := Machine.channelRequestOf value == .unused

/-- Whether an access is 4 bytes at a multiple of 4 (R92). -/
def Access.isWindowWord (a : Access) : Bool := a.size == .four && a.address.toNat % 4 == 0

/-- Whether a command is one its row of the table names: a bad request carries an unused encoding, a write of the window
names a word location, and a misaligned access is none of a word location. Every other command is well formed with all
operands. A command that is not well formed still runs: the block decides it by the rules of what it carries. -/
def Instr.wf : Instr → Bool
  | .badRequest _ value => badSlotRequest value
  | .channelBadRequest _ value => badChannelRequest value
  | .controlWindowWrite offset _ _ => offset.toNat % 4 == 0
  | .controlWindowMisaligned a _ => !a.isWindowWord
  | _ => true

end Sys2Proof
end

