-- ==== Sys2Proof/Certificates/Slice0/Obligations.lean ====
section
/-! DEFINITION. The statements for the provers. An equation `exec c s = .next t` says at once that the command completes,
what it writes, and that everything else is as before. -/

open Sys2Proof Sys2Proof.Machine

/-! ## The machine -/

/-- A step with a command at the front of the queue is that command's execution on the state with the queue's rest. -/
def Obligations.StepRunsFrontCommand : Prop :=
  ∀ (c : Instr) (rest : List Instr) (s : State), s.pending = c :: rest → step s = exec c { s with pending := rest }

/-- A step on an empty queue is one module clock period at every sequencer and nothing else (R130; log 1: the model's
choice of what the empty queue does). -/
def Obligations.EmptyQueueStepIsOneClockPeriod : Prop :=
  ∀ s : State, s.pending = [] → ∃ t, step s = .next t ∧ t = { s with sequencers := t.sequencers } ∧
    ∀ i : SlotId,
      ((s.sequencer i).access = none → t.sequencer i = s.sequencer i) ∧
      (∀ a, (s.sequencer i).access = some a → a.phase = .setup → 1 < a.periods →
        t.sequencer i = { s.sequencer i with access := some { a with periods := a.periods - 1 } }) ∧
      (∀ a, (s.sequencer i).access = some a → a.phase = .setup → a.periods ≤ 1 →
        t.sequencer i =
          { s.sequencer i with access := some { a with phase := .strobe, periods := a.profile.strobe } }) ∧
      (∀ a, (s.sequencer i).access = some a → a.phase ≠ .setup →
        t.sequencer i = { s.sequencer i with access := some { a with periods := a.periods - 1 } })

/-! ## Resets -/

/-- The state right after power-on reset (R1, R19, R38, R62, R63, R90, R107, R125, R141, R172). The straps at 0 and the open
contacts are the model's choice (log 5). -/
def Obligations.ResetStateHasTheSpecsValues : Prop :=
  State.reset.port = { location := 0, region := 0, enable := false, configRefused := false } ∧
  (∀ h, State.reset.entry h =
    { state := .free, slot := 0, space := .main, firstGranule := 0, granuleCount := 0, moduleOffset := 0, width := .byte,
      timingClass := 0, access := .readWrite, cookie := none, boundEpoch := none, inFlight := 0, used := false }) ∧
  State.reset.retired = 0 ∧
  State.reset.command =
    { args := ⟨0, 0, 0, 0⟩, executing := none, lastAccepted := none, resultCode := .none, results := ⟨0, 0, 0, 0⟩,
      overrun := false } ∧
  (∀ i, State.reset.slot i =
    { state := .empty, contacts := ⟨false, false⟩, timer := .stopped, probing := none, probeHigh := true,
      identity := { present := false, recognized := false, code := 0, kind := none, supplySet := none, epoch := 0 },
      lastResult := .none, badSupply := false, faultKind := none, switchClass := none, resetAsserted := true,
      config := { policy := .keep, readyLimit := 50, waitLimit := 32, profiles := Quad.all ⟨1, 4, 1⟩ } }) ∧
  (∀ i, State.reset.postingUnit i =
    { queue := [], headInProgress := false, holder := none, collectionTimer := none, discarded := 0 }) ∧
  State.reset.collectionLimit = 4 ∧
  (∀ i, State.reset.sequencer i =
    { access := none, preference := .system, waitTimer := none, partialMark := false }) ∧
  (∀ c, State.reset.memoryRecord c = none) ∧
  (∀ c, State.reset.channel c =
    { state := .idle, bound := none, direction := .toMemory, mode := .unit, unitSize := .one, baseAddress := 0,
      currentAddress := 0, memoryStep := .up, baseDisplacement := 0, currentDisplacement := 0, moduleStep := .fixed,
      baseCount := 0, currentCount := 0, reload := false, mask := true, stopPending := .none, resumeState := none,
      unitDue := false, unit := none, abortCause := none, lastResult := .none, recordHandle := 0 }) ∧
  (∀ c, State.reset.settings.get c = { control := 0, memoryAddress := 0, displacement := 0, count := 0 }) ∧
  (∀ g, State.reset.events.flags.get g = 0 ∧ State.reset.events.enables.get g = 0) ∧
  State.reset.events.clearMode = .readClears ∧ State.reset.events.interruptMode = .level ∧
  State.reset.events.output = false ∧ State.reset.events.pulsesOwed = 0 ∧ State.reset.events.pulsePhase = .idle ∧
  (∀ i, State.reset.events.alertSources.get i = false) ∧
  State.reset.events.fault =
    { valid := false, more := false
      fields := { kind := .unmapped, direction := .read, address := 0, size := .one, handle := none, slot := none,
                  cookie := none, partialMark := false } } ∧
  State.reset.pending = []

/-- POWER_ON_RESET takes the straps and the contacts as observed and brings every block to its values after power-on, which
are those of the reset state but for what the straps and contacts decide (R1, R38, R90). -/
def Obligations.PowerOnResetTakesStrapsAndContacts : Prop :=
  ∀ (straps : Fin 16) (contacts : Quad Contacts) (s : State),
    ∃ t, exec (.powerOnReset straps contacts) s = .next t ∧
      t = { State.reset with
            port := { State.reset.port with location := straps }, slots := t.slots, pending := s.pending } ∧
      ∀ i : SlotId,
        ((contacts.get i).a = false → (contacts.get i).b = false →
          t.slot i = { State.reset.slot i with contacts := contacts.get i }) ∧
        ((contacts.get i).a = true ∨ (contacts.get i).b = true →
          t.slot i =
            { State.reset.slot i with
              contacts := contacts.get i, state := .settling, timer := .running .settle 20000000 })

/-- SOFT_RESET: powered and FAULTED slots are IDENTIFIED with the switch off, the six unpowered states are left as they are,
every other block but the system port is at its reset values, and the port and the collection limit are kept (R2, R39,
R62, R63, R90, R124, R125, R141, R173, R174). -/
def Obligations.SoftResetKeepsPortAndUnpoweredSlots : Prop :=
  ∀ s : State, ∃ t, exec .softReset s = .next t ∧
    t = { State.reset with
          port := s.port, collectionLimit := s.collectionLimit, slots := t.slots, answer := some .ok,
          pending := s.pending } ∧
    ∀ i : SlotId,
      ((s.slot i).state.powered = true →
        t.slot i =
          { s.slot i with
            state := .identified, timer := .stopped, switchClass := none, resetAsserted := true, faultKind := none }) ∧
      ((s.slot i).state.powered = false → t.slot i = s.slot i)

/-- CHANNEL_CLEAR: every channel, its setting words and its memory access record are at their reset values; a channel's
module half is abandoned while a system access runs on, and a sequencer freed so begins the system work that waits, or
stays free with its preference when none does (R158, R138, R126). -/
def Obligations.ChannelClearAbandonsHalvesAndSparesSystemAccesses : Prop :=
  ∀ (l : Lines) (s : State), ∃ t, exec (.channelClear l) s = .next t ∧
    t = { s with
          channels := t.channels, settings := t.settings, memory := t.memory, sequencers := t.sequencers,
          posting := t.posting, answer := some .ok } ∧
    (∀ c, t.channel c = Channel.initial ∧ t.settings.get c = ChannelSettings.initial ∧ t.memoryRecord c = none) ∧
    ∀ i : SlotId,
      ((s.sequencer i).access = none → t.sequencer i = s.sequencer i ∧ t.postingUnit i = s.postingUnit i) ∧
      (∀ a, (s.sequencer i).access = some a → a.source.isChannel = false →
        t.sequencer i = s.sequencer i ∧ t.postingUnit i = s.postingUnit i) ∧
      (∀ a, (s.sequencer i).access = some a → a.source.isChannel = true → (s.postingUnit i).offered = none →
        t.sequencer i = { s.sequencer i with access := none, waitTimer := none, partialMark := false } ∧
        t.postingUnit i = s.postingUnit i) ∧
      (∀ a item, (s.sequencer i).access = some a → a.source.isChannel = true →
        (s.postingUnit i).offered = some (.headWrite item) →
        t.postingUnit i = { s.postingUnit i with headInProgress := true } ∧
        t.sequencer i =
          { access := some (s.begun i .headWrite .write item.target item.data l), preference := .channel,
            waitTimer := none, partialMark := false }) ∧
      (∀ a r, (s.sequencer i).access = some a → a.source.isChannel = true →
        (s.postingUnit i).offered = some (.heldRead r) →
        t.postingUnit i = { s.postingUnit i with holder := some { r with state := .issued } } ∧
        t.sequencer i =
          { access := some (s.begun i .heldRead .read r.target 0 l), preference := .channel, waitTimer := none,
            partialMark := false })

/-! ## Presence and identification -/

/-- A presence change outside ACTIVE (R3 to R8). -/
def Obligations.PresenceChangeOutsideActive : Prop :=
  ∀ (s : State) (i : SlotId) (k : Contact), (s.slot i).state ≠ .active →
    let contacts := (s.slot i).contacts.toggle k
    ((contacts.a = false ∧ contacts.b = false) →
      exec (.presenceChange i k) s =
        .next ((s.setSlot i
          { s.slot i with
            state := .empty, contacts := contacts, timer := .stopped, probing := none, probeHigh := true,
            identity := { (s.slot i).identity with present := false }, badSupply := false, faultKind := none,
            switchClass := none, resetAsserted := true }).raise (Flag.presence i)).settle) ∧
    ((contacts.a = true ∨ contacts.b = true) →
      exec (.presenceChange i k) s =
        .next ((s.setSlot i
          { s.slot i with
            state := .settling, contacts := contacts, timer := .running .settle 20000000, probing := none,
            probeHigh := true, identity := { (s.slot i).identity with present := false }, badSupply := false,
            faultKind := none, switchClass := none, resetAsserted := true }).raise (Flag.presence i)).settle)

/-- A session end: in ACTIVE a presence change, SUPPLY OFF, an overcurrent and a power-good loss each leave the slot as
their rule gives, end the session at every other block, deassert the ALERT source and raise exactly these flags: their
own (PRESENCE or FAULT), SESSION_DOWN, DATA_LOST if a write is purged, RETIRED if a FENCED entry is freed, and
CHANNEL_ABORT of each channel aborted; the rest of the event unit, the answer and the queue of commands stay (R9, R24,
R30, R31, R32, R35, R36, R53, R59, R122, R138, R155; that the output settles at the end of the event is log 11). -/
def Obligations.SessionEndReachesEveryBlock : Prop :=
  ∀ (s : State) (i : SlotId), (s.slot i).state = .active →
    let c := s.slot i
    let ends := fun f : Flag =>
      f = Flag.sessionDown i ∨ ((s.postingUnit i).queue ≠ [] ∧ f = Flag.dataLost i) ∨
      ((∃ h, (s.entry h).slot = i ∧ (s.entry h).state = .fenced) ∧ f = Flag.retired) ∨
      ∃ k, s.channelSlot k = some i ∧ (s.channel k).isActive = true ∧ f = Flag.channelAbort k
    let ended := fun (t : State) (x : SlotController) (own : Flag → Prop) (answer : Option Answer) =>
      s.SessionEnded t i c.identity.epoch ∧ (∀ j, t.slot j = if j = i then x else s.slot j) ∧
      t.answer = answer ∧ t.pending = s.pending ∧
      ∃ m : EventUnit,
        EventUnit.Raised { s.events with alertSources := s.events.alertSources.set i false } m
          (fun f => own f ∨ ends f) ∧
        t.events = m.settle
    (∀ k : Contact, ∃ t, exec (.presenceChange i k) s = .next t ∧
      ended t
        { c with
          state := if (c.contacts.toggle k).a || (c.contacts.toggle k).b then .settling else .empty
          contacts := c.contacts.toggle k
          timer := if (c.contacts.toggle k).a || (c.contacts.toggle k).b then .running .settle 20000000 else .stopped
          probing := none, probeHigh := true, identity := { c.identity with present := false }
          badSupply := false, faultKind := none, switchClass := none, resetAsserted := true }
        (fun f => f = Flag.presence i) s.answer) ∧
    (∃ t, exec (.supplyOff i) s = .next t ∧
      ended t
        { c with
          state := .identified, timer := .stopped, switchClass := none, resetAsserted := true, lastResult := .ok }
        (fun _ => False) (some .ok)) ∧
    (∃ t, exec (.overcurrent i) s = .next t ∧
      ended t
        { c with
          state := .faulted, timer := .stopped, switchClass := none, resetAsserted := true,
          faultKind := some .overcurrent }
        (fun f => f = Flag.fault i) s.answer) ∧
    (∃ t, exec (.powerGoodLoss i) s = .next t ∧
      ended t
        { c with
          state := .faulted, timer := .stopped, switchClass := none, resetAsserted := true,
          faultKind := some .powerLost }
        (fun f => f = Flag.fault i) s.answer)

/-- The expiry of the settle interval (R6). -/
def Obligations.SettleExpiryDecidesByContacts : Prop :=
  ∀ (s : State) (i : SlotId), (s.slot i).timerIs .settle = true →
    ((s.slot i).contacts.a = true → (s.slot i).contacts.b = true →
      exec (.settleExpiry i) s =
        .next (s.setSlot i
          { s.slot i with
            state := .probing, timer := .stopped, probing := some { round := 1, codes := [], lowSample := none },
            probeHigh := false })) ∧
    ((s.slot i).contacts.a ≠ (s.slot i).contacts.b →
      exec (.settleExpiry i) s = .next (s.setSlot i { s.slot i with state := .misseated, timer := .stopped }))

/-- The table of probe codes (R12): each code's samples, kind and supply set, the set in the order 1V8, 3V3, 5V0 with one or
more classes, and the codes that are unrecognized. -/
def Obligations.ProbeCodesDecideKindAndSupplySet : Prop :=
  probeTable 1 = some (.memory, [.v5v0]) ∧ probeTable 2 = some (.memory, [.v3v3]) ∧
  probeTable 3 = some (.memory, [.v3v3, .v5v0]) ∧ probeTable 4 = some (.function, [.v5v0]) ∧
  probeTable 5 = some (.function, [.v3v3]) ∧ probeTable 6 = some (.function, [.v3v3, .v5v0]) ∧
  probeTable 7 = some (.function, [.v1v8]) ∧ probeTable 8 = some (.function, [.v1v8, .v3v3]) ∧
  probeTable 9 = some (.memory, [.v1v8]) ∧ probeTable 10 = some (.memory, [.v1v8, .v3v3]) ∧
  probeTable 0 = none ∧ (∀ n, 11 ≤ n → probeTable n = none) ∧
  (∀ n kind set, probeTable n = some (kind, set) → set ≠ [] ∧ set.Sublist [.v1v8, .v3v3, .v5v0]) ∧
  ∀ k1Low k2Low k1High k2High : Bool,
    roundCode k1Low k2Low k1High k2High =
      8 * k1Low.toNat + 4 * k2Low.toNat + 2 * k1High.toNat + k2High.toNat

/-- An identification round (R10, R11, R13, R14): the low sample is kept and the probe line raised; at the round's end
two equal consecutive codes end probing, recognized with a new epoch or unrecognized, four rounds without agreement end
it with code 15, and otherwise a further round begins. -/
def Obligations.IdentificationRoundsEndByAgreement : Prop :=
  ∀ (s : State) (i : SlotId) (p : Probing) (k1 k2 : Bool), (s.slot i).probing = some p →
    (p.lowSample = none →
      exec (.probeLowSample i k1 k2) s =
        .next (s.setSlot i
          { s.slot i with probing := some { p with lowSample := some (k1, k2) }, probeHigh := true })) ∧
    ∀ l1 l2 : Bool, p.lowSample = some (l1, l2) →
      (∀ kind set, p.codes.getLast? = some (roundCode l1 l2 k1 k2) →
        probeTable (roundCode l1 l2 k1 k2) = some (kind, set) →
        exec (.identificationRoundEnd i k1 k2) s =
          .next ((s.setSlot i
            { s.slot i with
              state := .identified, probing := none, probeHigh := true
              identity :=
                { present := true, recognized := true, code := roundCode l1 l2 k1 k2, kind := some kind,
                  supplySet := some set
                  epoch := if (s.slot i).identity.epoch = 65535 then 1 else (s.slot i).identity.epoch + 1 } }).raise
            (Flag.identified i)).settle) ∧
      (p.codes.getLast? = some (roundCode l1 l2 k1 k2) → probeTable (roundCode l1 l2 k1 k2) = none →
        exec (.identificationRoundEnd i k1 k2) s =
          .next ((s.setSlot i
            { s.slot i with
              state := .unrecognized, probing := none, probeHigh := true
              identity :=
                { present := true, recognized := false, code := roundCode l1 l2 k1 k2, kind := none,
                  supplySet := none, epoch := (s.slot i).identity.epoch } }).raise (Flag.identified i)).settle) ∧
      (p.codes.getLast? ≠ some (roundCode l1 l2 k1 k2) → p.round < 4 →
        exec (.identificationRoundEnd i k1 k2) s =
          .next (s.setSlot i
            { s.slot i with
              probing := some { round := p.round + 1, codes := p.codes ++ [roundCode l1 l2 k1 k2], lowSample := none }
              probeHigh := false })) ∧
      (p.codes.getLast? ≠ some (roundCode l1 l2 k1 k2) → 4 ≤ p.round →
        exec (.identificationRoundEnd i k1 k2) s =
          .next ((s.setSlot i
            { s.slot i with
              state := .unrecognized, probing := none, probeHigh := true
              identity :=
                { present := true, recognized := false, code := 15, kind := none, supplySet := none,
                  epoch := (s.slot i).identity.epoch } }).raise (Flag.identified i)).settle)

/-! ## Slot requests -/

/-- A SUPPLY request that is not accepted (R17, R22, R23). -/
def Obligations.SupplyRefusals : Prop :=
  ∀ (s : State) (i : SlotId) (k : SupplyClass) (l : Lines),
    ((s.slot i).state = .empty ∨ (s.slot i).state = .settling ∨ (s.slot i).state = .misseated →
      exec (.supply i k l) s = .next ((s.setSlot i { s.slot i with lastResult := .noModule }).answered .ok)) ∧
    ((s.slot i).state = .probing ∨ (s.slot i).state = .unrecognized ∨ (s.slot i).state.powered = true →
      exec (.supply i k l) s = .next ((s.setSlot i { s.slot i with lastResult := .wrongState }).answered .ok)) ∧
    ((s.slot i).state = .identified → (s.slot i).identity.accepts k = false →
      exec (.supply i k l) s =
        .next ((((s.setSlot i { s.slot i with lastResult := .badSupply, badSupply := true }).raise
          (Flag.badSupply i)).settle).answered .ok))

/-- A SUPPLY request that is accepted turns the switch on and starts POWERING (R22, R25); the lines found asserted act
in the same event (R25, R27, R30; that an overcurrent goes before power-good is log 14). -/
def Obligations.SupplyTurnsTheSwitchOn : Prop :=
  ∀ (s : State) (i : SlotId) (k : SupplyClass) (l : Lines),
    (s.slot i).state = .identified → (s.slot i).identity.accepts k = true →
    ((l.get i).overcurrent = false → (l.get i).powerGood = false →
      exec (.supply i k l) s =
        .next ((s.setSlot i
          { s.slot i with
            state := .powering, switchClass := some k, badSupply := false, lastResult := .ok
            timer := .running .powerGoodLimit 100000000 }).answered .ok)) ∧
    ((l.get i).overcurrent = false → (l.get i).powerGood = true →
      exec (.supply i k l) s =
        .next ((s.setSlot i
          { s.slot i with
            state := .resetting, switchClass := some k, badSupply := false, lastResult := .ok, resetAsserted := true
            timer := .running .resetPulse 1000000 }).answered .ok)) ∧
    ((l.get i).overcurrent = true →
      exec (.supply i k l) s =
        .next ((((s.setSlot i
          { s.slot i with
            state := .faulted, switchClass := none, badSupply := false, lastResult := .ok, resetAsserted := true
            timer := .stopped, faultKind := some .overcurrent }).raise (Flag.fault i)).settle).answered .ok))

/-- SUPPLY OFF outside ACTIVE (R24), and a PROBE request, by the state each finds (R18). -/
def Obligations.SupplyOffAndProbeByState : Prop :=
  ∀ (s : State) (i : SlotId),
    ((s.slot i).state = .powering ∨ (s.slot i).state = .resetting →
      exec (.supplyOff i) s =
        .next ((s.setSlot i
          { s.slot i with
            state := .identified, timer := .stopped, switchClass := none, resetAsserted := true,
            lastResult := .ok }).answered .ok)) ∧
    ((s.slot i).state = .faulted →
      exec (.supplyOff i) s =
        .next ((s.setSlot i
          { s.slot i with state := .identified, faultKind := none, lastResult := .ok }).answered .ok)) ∧
    ((s.slot i).state.powered = false →
      exec (.supplyOff i) s = .next ((s.setSlot i { s.slot i with lastResult := .ok }).answered .ok)) ∧
    ((s.slot i).state = .identified ∨ (s.slot i).state = .unrecognized →
      exec (.probe i) s =
        .next ((s.setSlot i
          { s.slot i with
            state := .probing, timer := .stopped, probing := some { round := 1, codes := [], lowSample := none },
            probeHigh := false, lastResult := .ok }).answered .ok)) ∧
    ((s.slot i).state = .empty ∨ (s.slot i).state = .settling ∨ (s.slot i).state = .misseated →
      exec (.probe i) s = .next ((s.setSlot i { s.slot i with lastResult := .noModule }).answered .ok)) ∧
    ((s.slot i).state = .probing ∨ (s.slot i).state.powered = true →
      exec (.probe i) s = .next ((s.setSlot i { s.slot i with lastResult := .wrongState }).answered .ok))

/-- Which slot and channel request words carry an unused encoding (10.5, 10.6), and that such a request, answered OK,
changes nothing but the last request result, in every state (R17, R143). -/
def Obligations.UnusedRequestsLeaveOnlyTheirResult : Prop :=
  (∀ value : Word,
    (badSlotRequest value = true ↔
      bits value 3 0 = 0 ∨ 3 ≤ bits value 3 0 ∨ (bits value 3 0 = 1 ∧ 4 ≤ bits value 10 8)) ∧
    (badChannelRequest value = true ↔ bits value 3 0 = 0 ∨ 8 ≤ bits value 3 0)) ∧
  (∀ (s : State) (i : SlotId) (value : Word), badSlotRequest value = true →
    exec (.badRequest i value) s =
      .next ((s.setSlot i { s.slot i with lastResult := .badRequest }).answered .ok)) ∧
  ∀ (s : State) (c : ChannelId) (value : Word), badChannelRequest value = true →
    exec (.channelBadRequest c value) s =
      .next ((s.setChannel c { s.channel c with lastResult := .badRequest }).answered .ok)

/-! ## Power and faults -/

/-- Power-good in POWERING, the reset pulse and ready (R25, R27, R28, R34, R35, R160): POWERING goes to RESETTING, the
pulse's expiry releases the module reset line and starts the ready limit, and ready, then or later, makes the slot
ACTIVE with SESSION_UP and the ALERT source of a FUNCTION module presented, which raises ALERT if the source becomes
asserted. -/
def Obligations.PowerUpReachesActive : Prop :=
  ∀ (s : State) (i : SlotId) (l : Lines),
    let source := (l.get i).alert && (s.slot i).identity.kind == some .function
    let active := fun t : State =>
      t = { s with slots := t.slots, events := t.events } ∧
      (∀ j, t.slot j =
        if j = i then { s.slot i with state := .active, timer := .stopped, resetAsserted := false } else s.slot j) ∧
      ∃ m : EventUnit,
        EventUnit.Raised { s.events with alertSources := s.events.alertSources.set i source } m
          (fun f => f = Flag.sessionUp i ∨
            (source = true ∧ s.events.alertSources.get i = false ∧ f = Flag.alert i)) ∧
        t.events = m.settle
    ((s.slot i).state = .powering →
      exec (.powerGoodAssertion i) s =
        .next (s.setSlot i
          { s.slot i with state := .resetting, resetAsserted := true, timer := .running .resetPulse 1000000 })) ∧
    ((s.slot i).timerIs .resetPulse = true → (l.get i).ready = false →
      exec (.resetPulseExpiry i l) s =
        .next (s.setSlot i
          { s.slot i with
            resetAsserted := false
            timer := .running .readyLimit (10000000 * (s.slot i).config.readyLimit) })) ∧
    ((s.slot i).timerIs .resetPulse = true ∧ (l.get i).ready = true →
      ∃ t, exec (.resetPulseExpiry i l) s = .next t ∧ active t) ∧
    ((s.slot i).timerIs .readyLimit = true → ∃ t, exec (.readyAssertion i l) s = .next t ∧ active t)

/-- Faults outside ACTIVE (R26, R29, R30, R31, R32): the switch goes off, the module reset line is asserted, the timer
stops, the fault kind is recorded and FAULT is raised. -/
def Obligations.FaultsOutsideActive : Prop :=
  ∀ (s : State) (i : SlotId), (s.slot i).state ≠ .active →
    ((s.slot i).timerIs .powerGoodLimit = true →
      exec (.powerGoodLimitExpiry i) s =
        .next ((s.setSlot i
          { s.slot i with
            state := .faulted, timer := .stopped, switchClass := none, resetAsserted := true,
            faultKind := some .noPowerGood }).raise (Flag.fault i)).settle) ∧
    ((s.slot i).timerIs .readyLimit = true →
      exec (.readyLimitExpiry i) s =
        .next ((s.setSlot i
          { s.slot i with
            state := .faulted, timer := .stopped, switchClass := none, resetAsserted := true,
            faultKind := some .noReady }).raise (Flag.fault i)).settle) ∧
    ((s.slot i).state = .powering ∨ (s.slot i).state = .resetting →
      exec (.overcurrent i) s =
        .next ((s.setSlot i
          { s.slot i with
            state := .faulted, timer := .stopped, switchClass := none, resetAsserted := true,
            faultKind := some .overcurrent }).raise (Flag.fault i)).settle) ∧
    ((s.slot i).state = .resetting →
      exec (.powerGoodLoss i) s =
        .next ((s.setSlot i
          { s.slot i with
            state := .faulted, timer := .stopped, switchClass := none, resetAsserted := true,
            faultKind := some .powerLost }).raise (Flag.fault i)).settle) ∧
    ((s.slot i).state.switchOn = false →
      exec (.overcurrent i) s = .next s ∧ exec (.powerGoodLoss i) s = .next s)

/-- The alert and change lines are passed on in ACTIVE alone (R35, R160, R161): a FUNCTION module presents its alert
level, which raises ALERT when the source becomes asserted and leaves the flag when it deasserts, and its rising change
edges count; a MEMORY module presents none, and both its edges count. -/
def Obligations.AlertAndChangeArePassedOnInActive : Prop :=
  ∀ (s : State) (i : SlotId) (level : Bool),
    ((s.slot i).state = .active →
      let source := level && (s.slot i).identity.kind == some .function
      ∃ m : EventUnit,
        EventUnit.Raised { s.events with alertSources := s.events.alertSources.set i source } m
          (fun f => source = true ∧ s.events.alertSources.get i = false ∧ f = Flag.alert i) ∧
        exec (.alertLineChange i level) s = .next (s.setEvents m.settle)) ∧
    ((s.slot i).state = .active → (s.slot i).identity.kind = some .function ∧ level = true ∨
        (s.slot i).identity.kind = some .memory →
      exec (.changeLineEdge i level) s = .next ((s.raise (Flag.change i)).settle)) ∧
    ((s.slot i).state = .active → (s.slot i).identity.kind = some .function → level = false →
      exec (.changeLineEdge i level) s = .next s) ∧
    ((s.slot i).state ≠ .active →
      exec (.alertLineChange i level) s = .next s ∧ exec (.changeLineEdge i level) s = .next s)

/-! ## The command port -/

/-- A write of the command word: accepted while IDLE, dropped with OVERRUN while BUSY (R64, R65); OVERRUN is cleared by a
status word with a one in its position alone (R65). -/
def Obligations.CommandWordIsAcceptedWhileIdle : Prop :=
  ∀ (s : State) (value : Word),
    (s.command.executing = none →
      exec (.commandAcceptance value) s =
        .next (State.answered
          { s with
            command :=
              { s.command with
                executing := some { code := value.extractLsb' 0 4, args := s.command.args }
                lastAccepted := some (value.extractLsb' 0 4), resultCode := .pending } } .ok)) ∧
    (∀ e, s.command.executing = some e →
      exec (.commandAcceptance value) s =
        .next (State.answered { s with command := { s.command with overrun := true } } .ok)) ∧
    exec (.commandStatusWrite value) s =
      .next (State.answered
        { s with command := { s.command with overrun := s.command.overrun && !value.getLsbD 1 } } .ok)

/-- What every completion does (R67), and the completion of a command with an unused code (R64): the result code and all
four result words are written, the port is IDLE, COMMAND_DONE is raised, and nothing else changes. -/
def Obligations.CompletionsWriteResultsAndRaiseCommandDone : Prop :=
  (∀ (s : State) (code : ResultCode) (words : Quad Word),
    s.complete code words =
      { s with
        command := { s.command with executing := none, resultCode := code, results := words }
        events := (s.events.raise Flag.commandDone).settle } ∧
    (s.complete code words).events.isSet Flag.commandDone = true) ∧
  ∀ (s : State) (e : Executing), s.command.executing = some e → e.code.toNat = 0 ∨ 9 ≤ e.code.toNat →
    exec .unusedCommand s = .next (s.complete .badField ⟨0, 0, 0, 0⟩)

/-- CREATE: its arguments (10.4), the entries a range conflicts with, in the order of their handles (R71), and its checks in
order (R70). -/
def Obligations.CreateChecksInOrder : Prop :=
  (∀ w : Quad Word,
    (createArgs w).handle.val = bits w.at0 4 0 ∧ (createArgs w).slot.val = bits w.at0 6 5 ∧
    (createArgs w).space = [some .main, some .descriptor, some .port, none][bits w.at0 9 8]?.getD none ∧
    (createArgs w).width = [some .byte, some .word, some .sensed, none][bits w.at0 11 10]?.getD none ∧
    (createArgs w).timingClass.val = bits w.at0 13 12 ∧
    (createArgs w).access = [some .readWrite, some .readOnly, none, none][bits w.at0 15 14]?.getD none ∧
    (createArgs w).firstGranule = bits w.at0 31 16 ∧ (createArgs w).granuleCount = bits w.at1 16 0 ∧
    (createArgs w).moduleOffset = bits w.at2 25 0 ∧
    (createArgs w).cookie = if w.at1.getLsbD 31 then some w.at3 else none) ∧
  (∀ (s : State) (first count : Nat),
    (∀ h, h ∈ s.conflicts first count ↔
      (s.entry h).state ≠ .free ∧ first < (s.entry h).firstGranule + (s.entry h).granuleCount ∧
        (s.entry h).firstGranule < first + count) ∧
    (s.conflicts first count).Pairwise (fun h k => h < k)) ∧
  ∀ (s : State) (e : Executing), s.command.executing = some e → e.code = 1 →
    let a := createArgs e.args
    (a.space = none ∨ a.width = none ∨ a.access = none ∨ (a.space = some .port ∧ 65535 < a.moduleOffset) →
      exec .create s = .next (s.complete .badField ⟨0, 0, 0, 0⟩)) ∧
    ∀ space width access, a.space = some space → a.width = some width → a.access = some access →
      ¬(space = .port ∧ 65535 < a.moduleOffset) →
      (a.granuleCount = 0 ∨ 65536 < a.granuleCount ∨ 65536 < a.firstGranule + a.granuleCount →
        exec .create s = .next (s.complete .badRange ⟨0, 0, 0, 0⟩)) ∧
      (1 ≤ a.granuleCount → a.granuleCount ≤ 65536 → a.firstGranule + a.granuleCount ≤ 65536 →
        (space = .port → 16 < a.granuleCount → exec .create s = .next (s.complete .portTooLong ⟨0, 0, 0, 0⟩)) ∧
        (¬(space = .port ∧ 16 < a.granuleCount) →
          ((s.entry a.handle).state ≠ .free →
            exec .create s =
              .next (s.complete .handleInUse ⟨BitVec.ofNat 32 (s.entry a.handle).state.code, 0, 0, 0⟩)) ∧
          ((s.entry a.handle).state = .free →
            (∀ h more, s.conflicts a.firstGranule a.granuleCount = h :: more →
              exec .create s =
                .next (s.complete .overlap
                  ⟨BitVec.ofNat 32 h.val, BitVec.ofNat 32 (more.length + 1), 0, 0⟩)) ∧
            (s.conflicts a.firstGranule a.granuleCount = [] →
              exec .create s =
                .next ((s.setEntry a.handle
                  { state := .staged, slot := a.slot, space := space, firstGranule := a.firstGranule,
                    granuleCount := a.granuleCount, moduleOffset := a.moduleOffset, width := width,
                    timingClass := a.timingClass, access := access, cookie := a.cookie, boundEpoch := none,
                    inFlight := 0, used := false }).complete .ok ⟨BitVec.ofNat 32 a.handle.val, 0, 0, 0⟩)))))

/-- ACTIVATE (R73) and REBIND (R81) by their checks in order. -/
def Obligations.ActivateAndRebindBindToTheSession : Prop :=
  (∀ (s : State) (x : Executing), s.command.executing = some x → x.code = 2 →
    let h := argHandle x.args
    let e := s.entry h
    (e.state ≠ .staged →
      exec .activate s = .next (s.complete .wrongState ⟨BitVec.ofNat 32 e.state.code, 0, 0, 0⟩)) ∧
    (e.state = .staged → (s.slot e.slot).state ≠ .active →
      exec .activate s =
        .next (s.complete .noSession ⟨BitVec.ofNat 32 (s.slot e.slot).state.code, 0, 0, 0⟩)) ∧
    (e.state = .staged → (s.slot e.slot).state = .active → e.space = .port →
      (s.slot e.slot).identity.kind = some .memory →
      exec .activate s = .next (s.complete .wrongKind ⟨0, 0, 0, 0⟩)) ∧
    (e.state = .staged → (s.slot e.slot).state = .active →
      ¬(e.space = .port ∧ (s.slot e.slot).identity.kind = some .memory) →
      exec .activate s =
        .next ((s.setEntry h
          { e with state := .live, boundEpoch := some (s.slot e.slot).identity.epoch }).complete .ok
            ⟨BitVec.ofNat 32 (s.slot e.slot).identity.epoch.toNat, 0, 0, 0⟩))) ∧
  ∀ (s : State) (x : Executing), s.command.executing = some x → x.code = 5 →
    let h := argHandle x.args
    let e := s.entry h
    (e.state ≠ .orphaned →
      exec .rebind s = .next (s.complete .wrongState ⟨BitVec.ofNat 32 e.state.code, 0, 0, 0⟩)) ∧
    (e.state = .orphaned → (s.slot e.slot).state ≠ .active →
      exec .rebind s =
        .next (s.complete .noSession ⟨BitVec.ofNat 32 (s.slot e.slot).state.code, 0, 0, 0⟩)) ∧
    (e.state = .orphaned → (s.slot e.slot).state = .active → e.space = .port →
      (s.slot e.slot).identity.kind = some .memory →
      exec .rebind s = .next (s.complete .wrongKind ⟨0, 0, 0, 0⟩)) ∧
    (∀ old : BitVec 16, e.state = .orphaned → (s.slot e.slot).state = .active → e.boundEpoch = some old →
      ¬(e.space = .port ∧ (s.slot e.slot).identity.kind = some .memory) →
      exec .rebind s =
        .next ((s.setEntry h
          { e with state := .live, boundEpoch := some (s.slot e.slot).identity.epoch }).complete .ok
            ⟨BitVec.ofNat 32 (s.slot e.slot).identity.epoch.toNat, BitVec.ofNat 32 old.toNat, 0, 0⟩))

/-- AMEND: its arguments (10.4) and its checks in order (R75). -/
def Obligations.AmendWritesTheSelectedFields : Prop :=
  (∀ w : Quad Word,
    (amendArgs w).handle.val = bits w.at0 4 0 ∧ (amendArgs w).selectOffset = w.at0.getLsbD 8 ∧
    (amendArgs w).selectWidth = w.at0.getLsbD 9 ∧ (amendArgs w).selectTiming = w.at0.getLsbD 10 ∧
    (amendArgs w).selectAccess = w.at0.getLsbD 11 ∧
    (amendArgs w).cookieOp = [some .keep, some .set, some .remove, none][bits w.at0 13 12]?.getD none ∧
    (amendArgs w).width = [some .byte, some .word, some .sensed, none][bits w.at0 17 16]?.getD none ∧
    (amendArgs w).timingClass.val = bits w.at0 21 20 ∧
    (amendArgs w).access = [some .readWrite, some .readOnly, none, none][bits w.at0 25 24]?.getD none ∧
    (amendArgs w).moduleOffset = bits w.at2 25 0 ∧ (amendArgs w).cookie = w.at3) ∧
  ∀ (s : State) (x : Executing), s.command.executing = some x → x.code = 3 →
    let a := amendArgs x.args
    let e := s.entry a.handle
    let bad := a.cookieOp = none ∨ (a.selectWidth = true ∧ a.width = none) ∨
      (a.selectAccess = true ∧ a.access = none) ∨ (a.selectOffset = true ∧ e.space = .port ∧ 65535 < a.moduleOffset)
    let blocks := fun c : ChannelId => (s.channel c).bound = some a.handle ∧ (s.channel c).isActive = true ∧
      (s.channel c).direction = .fromMemory
    (e.state = .free ∨ e.state = .fenced →
      exec .amend s = .next (s.complete .wrongState ⟨BitVec.ofNat 32 e.state.code, 0, 0, 0⟩)) ∧
    (e.state ≠ .free → e.state ≠ .fenced → bad → exec .amend s = .next (s.complete .badField ⟨0, 0, 0, 0⟩)) ∧
    (∀ c, e.state ≠ .free → e.state ≠ .fenced → ¬bad → a.selectAccess = true → a.access = some .readOnly →
      blocks c → (∀ d, d < c → ¬blocks d) →
      exec .amend s =
        .next (s.complete .channelBound ⟨BitVec.ofNat 32 a.handle.val, BitVec.ofNat 32 c.val, 0, 0⟩)) ∧
    (e.state ≠ .free → e.state ≠ .fenced → ¬bad →
      (¬(a.selectAccess = true ∧ a.access = some .readOnly) ∨ ∀ c, ¬blocks c) →
      exec .amend s =
        .next ((s.setEntry a.handle
          { e with
            moduleOffset := if a.selectOffset then a.moduleOffset else e.moduleOffset
            width := if a.selectWidth then a.width.getD e.width else e.width
            timingClass := if a.selectTiming then a.timingClass else e.timingClass
            access := if a.selectAccess then a.access.getD e.access else e.access
            cookie := if a.cookieOp = some .set then some a.cookie
                      else if a.cookieOp = some .remove then none else e.cookie }).complete .ok
              ⟨BitVec.ofNat 32 e.state.code, 0, 0, 0⟩))

/-- RETIRE by its checks in order (R78): an entry that becomes FREE loses its channels' bindings and is not retired. -/
def Obligations.RetireFreesOrFences : Prop :=
  ∀ (s : State) (x : Executing), s.command.executing = some x → x.code = 4 →
    let h := argHandle x.args
    let e := s.entry h
    let blocks := fun c : ChannelId => (s.channel c).bound = some h ∧ (s.channel c).isActive = true
    (e.state = .free ∨ e.state = .fenced →
      exec .retire s = .next (s.complete .wrongState ⟨BitVec.ofNat 32 e.state.code, 0, 0, 0⟩)) ∧
    (∀ c, e.state ≠ .free → e.state ≠ .fenced → blocks c → (∀ d, d < c → ¬blocks d) →
      exec .retire s =
        .next (s.complete .channelBound ⟨BitVec.ofNat 32 h.val, BitVec.ofNat 32 c.val, 0, 0⟩)) ∧
    (e.state = .live → (∀ c, ¬blocks c) → e.inFlight ≠ 0 →
      exec .retire s =
        .next ((s.setEntry h { e with state := .fenced }).complete .ok ⟨2, BitVec.ofNat 32 e.inFlight, 0, 0⟩)) ∧
    (e.state = .staged ∨ e.state = .orphaned ∨ (e.state = .live ∧ e.inFlight = 0) → (∀ c, ¬blocks c) →
      exec .retire s =
        .next (((s.setEntry h Entry.free).unbindWhere (fun k => k == h)).complete .ok ⟨1, 0, 0, 0⟩))

/-- QUERY reports the entry and its channels in the layout of 10.4, and with the option clears the used mark after it
(R57, R83, R175). -/
def Obligations.QueryReportsTheEntry : Prop :=
  ∀ (s : State) (x : Executing), s.command.executing = some x → x.code = 6 →
    let h := argHandle x.args
    let e := s.entry h
    let epoch := match e.boundEpoch with
      | none => 0
      | some v => v.toNat
    e.inFlight ≤ 9 → e.firstGranule < 65536 → e.granuleCount ≤ 65536 → e.moduleOffset < 67108864 →
    ∃ t, exec .query s = .next t ∧
      t = (if x.args.at0.getLsbD 8 then s.setEntry h { e with used := false } else s).complete .ok t.command.results ∧
      bits t.command.results.at0 2 0 = e.state.code ∧ bits t.command.results.at0 3 3 = e.access.code ∧
      bits t.command.results.at0 7 4 = e.inFlight ∧ bits t.command.results.at0 9 8 = e.slot.val ∧
      bits t.command.results.at0 11 10 = e.space.code ∧ bits t.command.results.at0 13 12 = e.width.code ∧
      bits t.command.results.at0 15 14 = e.timingClass.val ∧ bits t.command.results.at0 31 16 = epoch ∧
      bits t.command.results.at1 15 0 = e.firstGranule ∧
      bits t.command.results.at1 31 16 = e.granuleCount % 65536 ∧
      bits t.command.results.at2 25 0 = e.moduleOffset ∧
      t.command.results.at2.getLsbD 26 = e.cookie.isSome ∧ t.command.results.at2.getLsbD 27 = e.used ∧
      (∀ c : ChannelId, t.command.results.at2.getLsbD (28 + c.val) = ((s.channel c).bound == some h)) ∧
      t.command.results.at3 = e.cookie.getD (BitVec.ofNat 32 h.val)

/-- FIND judges an address by the base alone, and reports the entry that covers it (R85); which
entries cover a granule, and which one a lookup finds (R43, R61). -/
def Obligations.FindReportsTheCoveringEntry : Prop :=
  (∀ (e : Entry) (granule : Nat),
    e.covers granule = true ↔
      e.state ≠ .free ∧ e.firstGranule ≤ granule ∧ granule < e.firstGranule + e.granuleCount) ∧
  (∀ (s : State) (granule : Nat),
    (s.covering granule = none ↔ ∀ h, (s.entry h).covers granule = false) ∧
    ∀ h, s.covering granule = some h →
      (s.entry h).covers granule = true ∧ ∀ k, k < h → (s.entry k).covers granule = false) ∧
  ∀ (s : State) (x : Executing), s.command.executing = some x → x.code = 7 →
    let address := x.args.at0.toNat
    let base := 268435456 * s.port.region.val
    (address < base ∨ base + 268435456 ≤ address →
      exec .find s = .next (s.complete .badRange ⟨0, 0, 0, 0⟩)) ∧
    (base ≤ address → address < base + 268435456 →
      (∀ h : Handle, (s.entry h).covers ((address - base) / 4096) = true →
        (∀ k, k < h → (s.entry k).covers ((address - base) / 4096) = false) →
        exec .find s =
          .next (s.complete .ok
            ⟨BitVec.ofNat 32 h.val, BitVec.ofNat 32 (s.entry h).state.code,
             BitVec.ofNat 32 (address - base - 4096 * (s.entry h).firstGranule), 0⟩)) ∧
      ((∀ h : Handle, (s.entry h).covers ((address - base) / 4096) = false) →
        exec .find s = .next (s.complete .notFound ⟨BitVec.ofNat 32 ((address - base) / 4096), 0, 0, 0⟩)))

/-- SWEEP is refused whole when an entry of its slot has an active channel, and otherwise frees or fences every entry of the
slot, retiring none, and counts them (R87). -/
def Obligations.SweepFreesOrFencesTheSlot : Prop :=
  ∀ (s : State) (x : Executing), s.command.executing = some x → x.code = 8 →
    let i := quarter (bits x.args.at0 1 0)
    let blocks := fun (h : Handle) (c : ChannelId) => (s.entry h).slot = i ∧ (s.entry h).state ≠ .free ∧
      (s.channel c).bound = some h ∧ (s.channel c).isActive = true
    (∀ h c, blocks h c → (∀ k d, k < h → ¬blocks k d) → (∀ d, d < c → ¬blocks h d) →
      exec .sweep s =
        .next (s.complete .channelBound ⟨BitVec.ofNat 32 h.val, BitVec.ofNat 32 c.val, 0, 0⟩)) ∧
    ((∀ h c, ¬blocks h c) →
      let freed := fun h : Handle => (s.entry h).slot = i ∧
        ((s.entry h).state = .staged ∨ (s.entry h).state = .orphaned ∨
          ((s.entry h).state = .live ∧ (s.entry h).inFlight = 0))
      let fenced := fun h : Handle => (s.entry h).slot = i ∧ (s.entry h).state = .live ∧ (s.entry h).inFlight ≠ 0
      let passed := fun h : Handle => (s.entry h).slot = i ∧ (s.entry h).state = .fenced
      ∃ t, exec .sweep s = .next t ∧
        t = { s with
              table := t.table, channels := t.channels
              command :=
                { s.command with
                  executing := none, resultCode := .ok
                  results :=
                    ⟨BitVec.ofNat 32 (handles.countP (fun h => decide (freed h))),
                     BitVec.ofNat 32 (handles.countP (fun h => decide (fenced h))),
                     BitVec.ofNat 32 (handles.countP (fun h => decide (passed h))), 0⟩ }
              events := (s.events.raise Flag.commandDone).settle } ∧
        (∀ h, freed h → t.entry h = Entry.free) ∧
        (∀ h, fenced h → t.entry h = { s.entry h with state := .fenced }) ∧
        (∀ h, ¬freed h → ¬fenced h → t.entry h = s.entry h) ∧
        ∀ c, t.channel c =
          { s.channel c with
            bound := match (s.channel c).bound with
                     | none => none
                     | some h => if freed h then none else some h })

/-! ## Registers -/

/-- The registers whose write is their whole behaviour: the write-one words (R60, R93, R178), the collection limit (R119),
the discarded-write count (R113), the slot configuration (R19) and the channel setting words (R176). -/
def Obligations.PlainRegisterWrites : Prop :=
  ∀ (s : State) (i : SlotId) (value : Word),
    exec (.portStatusWrite value) s =
      .next (State.answered
        { s with port := { s.port with configRefused := s.port.configRefused && !value.getLsbD 0 } } .ok) ∧
    exec (.retiredHandleSetWrite value) s =
      .next (State.answered { s with retired := s.retired &&& ~~~value } .ok) ∧
    exec (.collectionLimitWrite value) s =
      .next (State.answered
        { s with collectionLimit := if value.toNat % 16 = 0 then 1 else value.toNat % 16 } .ok) ∧
    exec (.discardedWriteCountWrite i value) s =
      .next ((s.setPosting i { s.postingUnit i with discarded := 0 }).answered .ok) ∧
    exec (.slotConfigurationWrite i value) s =
      .next ((s.setSlot i
        { s.slot i with
          config :=
            { (s.slot i).config with
              policy := if value.getLsbD 0 then .release else .keep
              readyLimit := if bits value 15 8 = 0 then 1 else bits value 15 8
              waitLimit := if bits value 23 16 = 0 then 1 else bits value 23 16 } }).answered .ok) ∧
    (∃ profiles : Quad Profile,
      exec (.timingProfilesWrite i value) s =
        .next ((s.setSlot i
          { s.slot i with config := { (s.slot i).config with profiles := profiles } }).answered .ok) ∧
      ∀ p : Fin 4, profiles.get p =
        { setup := bits value (8 * p.val + 1) (8 * p.val)
          strobe := if bits value (8 * p.val + 5) (8 * p.val + 2) = 0 then 1
                    else bits value (8 * p.val + 5) (8 * p.val + 2)
          hold := bits value (8 * p.val + 7) (8 * p.val + 6) }) ∧
    ∀ word : SettingWord,
      exec (.channelSettingWrite i word value) s =
        .next (State.answered
          { s with
            settings := s.settings.set i
              { control := if word = .control then value &&& 0x7F3F else (s.settings.get i).control
                memoryAddress := if word = .memoryAddress then value else (s.settings.get i).memoryAddress
                displacement := if word = .displacement then value &&& 0x0FFFFFFF else (s.settings.get i).displacement
                count := if word = .count then value &&& 0xFFFF else (s.settings.get i).count } } .ok)

/-- A write of the aperture-space base: the enable is taken always; the region when every entry is FREE or it is the one
held, and otherwise CONFIG_REFUSED is set (R93). -/
def Obligations.BaseWriteNeedsAnEmptyTable : Prop :=
  ∀ (s : State) (value : Word),
    ((∀ h, (s.entry h).state = .free) ∨ value.toNat % 16 = s.port.region.val →
      ∃ t, exec (.apertureSpaceBaseWrite value) s = .next t ∧ t.port.region.val = value.toNat % 16 ∧
        t.port.enable = value.getLsbD 8 ∧
        t = State.answered
          { s with port := { s.port with region := t.port.region, enable := t.port.enable } } .ok) ∧
    (∀ h, (s.entry h).state ≠ .free → value.toNat % 16 ≠ s.port.region.val →
      exec (.apertureSpaceBaseWrite value) s =
        .next (State.answered
          { s with port := { s.port with enable := value.getLsbD 8, configRefused := true } } .ok))

/-- A write of a control-window location is the command of the register there, for every register that a command of the
table names (10.1, R92, R174, R178). -/
def Obligations.WindowWritesAreTheRegistersCommands : Prop :=
  ∀ (s : State) (v : Word) (l : Lines),
    (v.getLsbD 0 = true → exec (.controlWindowWrite 0x000 v l) s = exec .softReset s) ∧
    (v.getLsbD 0 = false → v.getLsbD 1 = true →
      exec (.controlWindowWrite 0x000 v l) s = exec (.channelClear l) s) ∧
    (v.getLsbD 0 = false → v.getLsbD 1 = false →
      exec (.controlWindowWrite 0x000 v l) s = .next (s.answered .ok)) ∧
    exec (.controlWindowWrite 0x004 v l) s = exec (.apertureSpaceBaseWrite v) s ∧
    exec (.controlWindowWrite 0x008 v l) s = exec (.portStatusWrite v) s ∧
    exec (.controlWindowWrite 0x00C v l) s = exec (.collectionLimitWrite v) s ∧
    exec (.controlWindowWrite 0x010 v l) s = exec (.retiredHandleSetWrite v) s ∧
    exec (.controlWindowWrite 0x050 v l) s = exec (.commandAcceptance v) s ∧
    exec (.controlWindowWrite 0x054 v l) s = exec (.commandStatusWrite v) s ∧
    exec (.controlWindowWrite 0x310 v l) s = exec (.eventWordWrite .system v) s ∧
    exec (.controlWindowWrite 0x330 v l) s = exec (.enableWordWrite .system v) s ∧
    exec (.controlWindowWrite 0x350 v l) s = exec (.forceWordWrite .system v) s ∧
    exec (.controlWindowWrite 0x360 v l) s = exec (.eventControlWrite v) s ∧
    exec (.controlWindowWrite 0x37C v l) s = exec (.faultRelease v) s ∧
    ∀ i : Fin 4,
      let slotAt := fun k : Nat => BitVec.ofNat 12 (0x100 + 0x20 * i.val + k)
      let channelAt := fun k : Nat => BitVec.ofNat 12 (0x200 + 0x40 * i.val + k)
      (∀ k, bits v 3 0 = 1 → bits v 10 8 = (match k with | .v1v8 => 1 | .v3v3 => 2 | .v5v0 => 3) →
        exec (.controlWindowWrite (slotAt 8) v l) s = exec (.supply i k l) s) ∧
      (bits v 3 0 = 1 → bits v 10 8 = 0 →
        exec (.controlWindowWrite (slotAt 8) v l) s = exec (.supplyOff i) s) ∧
      (bits v 3 0 = 2 → exec (.controlWindowWrite (slotAt 8) v l) s = exec (.probe i) s) ∧
      ((bits v 3 0 = 1 ∧ 4 ≤ bits v 10 8) ∨ bits v 3 0 = 0 ∨ 3 ≤ bits v 3 0 →
        exec (.controlWindowWrite (slotAt 8) v l) s = exec (.badRequest i v) s) ∧
      exec (.controlWindowWrite (slotAt 16) v l) s = exec (.discardedWriteCountWrite i v) s ∧
      exec (.controlWindowWrite (slotAt 20) v l) s = exec (.slotConfigurationWrite i v) s ∧
      exec (.controlWindowWrite (slotAt 24) v l) s = exec (.timingProfilesWrite i v) s ∧
      (bits v 3 0 = 1 → exec (.controlWindowWrite (channelAt 0) v l) s = exec (.configure i) s) ∧
      (bits v 3 0 = 2 → exec (.controlWindowWrite (channelAt 0) v l) s = exec (.arm i l) s) ∧
      (bits v 3 0 = 3 → exec (.controlWindowWrite (channelAt 0) v l) s = exec (.start i l) s) ∧
      (bits v 3 0 = 4 → exec (.controlWindowWrite (channelAt 0) v l) s = exec (.pause i) s) ∧
      (bits v 3 0 = 5 → exec (.controlWindowWrite (channelAt 0) v l) s = exec (.resume i l) s) ∧
      (bits v 3 0 = 6 → exec (.controlWindowWrite (channelAt 0) v l) s = exec (.cancel i) s) ∧
      (bits v 3 0 = 7 → exec (.controlWindowWrite (channelAt 0) v l) s = exec (.unmask i l) s) ∧
      (bits v 3 0 = 0 ∨ 8 ≤ bits v 3 0 →
        exec (.controlWindowWrite (channelAt 0) v l) s = exec (.channelBadRequest i v) s) ∧
      exec (.controlWindowWrite (channelAt 4) v l) s = exec (.channelSettingWrite i .control v) s ∧
      exec (.controlWindowWrite (channelAt 8) v l) s = exec (.channelSettingWrite i .memoryAddress v) s ∧
      exec (.controlWindowWrite (channelAt 12) v l) s = exec (.channelSettingWrite i .displacement v) s ∧
      exec (.controlWindowWrite (channelAt 16) v l) s = exec (.channelSettingWrite i .count v) s ∧
      exec (.controlWindowWrite (BitVec.ofNat 12 (0x300 + 4 * i.val)) v l) s = exec (.eventWordWrite (.slot i) v) s ∧
      exec (.controlWindowWrite (BitVec.ofNat 12 (0x320 + 4 * i.val)) v l) s = exec (.enableWordWrite (.slot i) v) s ∧
      exec (.controlWindowWrite (BitVec.ofNat 12 (0x340 + 4 * i.val)) v l) s = exec (.forceWordWrite (.slot i) v) s

/-- CONTROL_WINDOW_WRITE and reads of the window: an argument word keeps the value written and nothing else changes, the
arguments of a command in execution included (R66); a read-only register and a location without one take no write, a
write off a multiple of 4 is answered ERROR(ALIGN), a read answers the register's value on lanes 0 to 3, or 0 where there
is none, and only an event word's read is more than that (R92, R164, R178); and the layout of every word but the event
words, by the value read at its location (10.1 to 10.7; a number larger than its field, which no run reaches, is cut to
it). That bits 4:0 of the record configuration word read 0 after a CONFIGURE naming no entry is log 24. -/
def Obligations.WindowLocationsReadAndWrite : Prop :=
  ∀ (s : State) (v : Word) (l : Lines),
    (∀ i : Fin 4, exec (.controlWindowWrite (BitVec.ofNat 12 (0x040 + 4 * i.val)) v l) s =
      .next (State.answered { s with command := { s.command with args := s.command.args.set i v } } .ok)) ∧
    (∀ o : BitVec 12, o.toNat % 4 ≠ 0 → exec (.controlWindowWrite o v l) s = .next (s.answered (.error .align))) ∧
    (∀ o : BitVec 12, o.toNat % 4 = 0 → registerAt (o.toNat / 4) = none →
      exec (.controlWindowWrite o v l) s = .next (s.answered .ok)) ∧
    (∀ i : Fin 4, ∀ k, k ∈ [0x060 + 4 * i.val, 0x100 + 0x20 * i.val, 0x104 + 0x20 * i.val, 0x10C + 0x20 * i.val,
        0x214 + 0x40 * i.val, 0x218 + 0x40 * i.val, 0x21C + 0x40 * i.val, 0x220 + 0x40 * i.val,
        0x224 + 0x40 * i.val, 0x228 + 0x40 * i.val, 0x22C + 0x40 * i.val, 0x230 + 0x40 * i.val, 0x364, 0x370, 0x374,
        0x378] →
      exec (.controlWindowWrite (BitVec.ofNat 12 k) v l) s = .next (s.answered .ok)) ∧
    (∀ n < 1024,
      let read := exec (.apertureRead (BitVec.ofNat 32 (4293918720 + 65536 * s.port.location.val + 4 * n)) .four l) s
      let word := fun w : Word => Answer.okData [(0, byteAt w 0), (1, byteAt w 1), (2, byteAt w 2), (3, byteAt w 3)]
      (registerAt n = none → read = .next (s.answered (word 0))) ∧
      (∀ r, registerAt n = some r → (∀ g, r ≠ .event g) → read = .next (s.answered (word (s.readRegister r)))) ∧
      (∀ g, registerAt n = some (.event g) → read = exec (.eventWordRead g) s)) ∧
    let holds := fun (k : Nat) (value : Nat) =>
      let w : Word := BitVec.ofNat 32 value
      exec (.apertureRead (BitVec.ofNat 32 (4293918720 + 65536 * s.port.location.val + k)) .four l) s =
        .next (s.answered (.okData [(0, byteAt w 0), (1, byteAt w 1), (2, byteAt w 2), (3, byteAt w 3)]))
    (∀ n < 1024, ¬(n < 5 ∨ (16 ≤ n ∧ n < 22) ∨ (24 ≤ n ∧ n < 28) ∨ (64 ≤ n ∧ n < 96 ∧ n % 8 < 7) ∨
        (128 ≤ n ∧ n < 192 ∧ n % 16 < 13) ∨ (192 ≤ n ∧ n < 197) ∨ (200 ≤ n ∧ n < 205) ∨ (208 ≤ n ∧ n < 213) ∨
        n = 216 ∨ n = 217 ∨ (220 ≤ n ∧ n < 224)) → holds (4 * n) 0) ∧
    -- device control, system port and table words (10.2, 10.3)
    holds 0x000 0 ∧ holds 0x004 (s.port.region.val + 256 * s.port.enable.toNat) ∧
    holds 0x008 s.port.configRefused.toNat ∧ holds 0x00C (s.collectionLimit % 16) ∧ holds 0x010 s.retired.toNat ∧
    -- command port (10.4)
    holds 0x050 0 ∧
    holds 0x054
      (s.command.executing.isSome.toNat + 2 * s.command.overrun.toNat + 256 * s.command.resultCode.code +
        65536 * (s.command.lastAccepted.map (fun code => code.toNat)).getD 0) ∧
    [ResultCode.none, .pending, .ok, .wrongState, .handleInUse, .badRange, .overlap, .portTooLong, .badField, .noSession,
      .wrongKind, .channelBound, .notFound].map ResultCode.code = List.range 13 ∧
    [EntryState.free, .staged, .live, .fenced, .orphaned].map EntryState.code = List.range 5 ∧
    [Space.main, .descriptor, .port].map Space.code = List.range 3 ∧
    [Width.byte, .word, .sensed].map Width.code = List.range 3 ∧
    [EntryAccess.readWrite, .readOnly].map EntryAccess.code = List.range 2 ∧
    (∀ i : Fin 4, holds (0x040 + 4 * i.val) (s.command.args.get i).toNat ∧
      holds (0x060 + 4 * i.val) (s.command.results.get i).toNat) ∧
    -- slot words (10.5)
    (∀ i : Fin 4,
      let at' := 0x100 + 0x20 * i.val
      let c := s.slot i
      let p := s.postingUnit i
      let member := fun k : SupplyClass => ((c.identity.supplySet.getD []).contains k).toNat
      let profile := fun k : Fin 4 =>
        ((c.config.profiles.get k).setup + 4 * (c.config.profiles.get k).strobe +
          64 * (c.config.profiles.get k).hold) % 256
      holds at'
        (c.state.code + 16 * c.contacts.a.toNat + 32 * c.contacts.b.toNat +
          64 * (match c.switchClass with
                | none => 0
                | some .v1v8 => 1
                | some .v3v3 => 2
                | some .v5v0 => 3) +
          256 * c.resetAsserted.toNat + 512 * c.badSupply.toNat +
          1024 * (match c.faultKind with
                  | none => 0
                  | some .noPowerGood => 1
                  | some .noReady => 2
                  | some .overcurrent => 3
                  | some .powerLost => 4) +
          8192 * (match c.timer with
                  | .stopped => 0
                  | .running .settle _ => 1
                  | .running .powerGoodLimit _ => 2
                  | .running .resetPulse _ => 3
                  | .running .readyLimit _ => 4)) ∧
      holds (at' + 4)
        (c.identity.present.toNat + 2 * c.identity.recognized.toNat + 16 * (c.identity.code % 16) +
          256 * (match c.identity.kind with
                 | none => 0
                 | some .memory => 1
                 | some .function => 2) +
          4096 * member .v1v8 + 8192 * member .v3v3 + 16384 * member .v5v0 + 65536 * c.identity.epoch.toNat) ∧
      holds (at' + 8) c.lastResult.code ∧
      holds (at' + 12)
        (p.queue.length % 16 +
          16 * (match p.holder.map (fun r => r.state) with
                | none => 0
                | some (.waiting _) => 1
                | some .issued => 2
                | some (.ready _) => 3
                | some .failed => 4) +
          256 * (p.holder.map (fun r => r.target.handle.val)).getD 0) ∧
      holds (at' + 16) (p.discarded % 65536) ∧
      holds (at' + 20)
        ((if c.config.policy = .release then 1 else 0) + 256 * (c.config.readyLimit % 256) +
          65536 * (c.config.waitLimit % 256)) ∧
      holds (at' + 24) (profile 0 + 256 * profile 1 + 65536 * profile 2 + 16777216 * profile 3)) ∧
    [SlotState.empty, .settling, .misseated, .probing, .unrecognized, .identified, .powering, .resetting, .active,
      .faulted].map SlotState.code = List.range 10 ∧
    [SlotResult.none, .ok, .noModule, .wrongState, .badSupply, .badRequest].map SlotResult.code = List.range 6 ∧
    -- channel words (10.6)
    (∀ c : Fin 4,
      let at' := 0x200 + 0x40 * c.val
      let ch := s.channel c
      let w := s.settings.get c
      holds at' 0 ∧ holds (at' + 4) w.control.toNat ∧ holds (at' + 8) w.memoryAddress.toNat ∧
      holds (at' + 12) w.displacement.toNat ∧ holds (at' + 16) w.count.toNat ∧
      holds (at' + 20)
        (ch.state.code + 8 * ch.bound.isSome.toNat + 16 * (ch.bound.map (fun h => h.val)).getD 0 +
          512 * (match ch.abortCause with
                 | none => 0
                 | some .sessionEnd => 1
                 | some .moduleTimeout => 2
                 | some .memoryError => 3
                 | some .memoryBusy => 4) +
          4096 * ch.mask.toNat + 8192 * ch.stopPending.code + 32768 * ch.unitDue.toNat +
          65536 * (match ch.resumeState with
                   | none => 0
                   | some .armed => 1
                   | some .running => 2) +
          262144 * (match ch.unit.map (fun u => u.half) with
                    | none => 0
                    | some .memoryHalf => 1
                    | some .moduleHalf => 2) +
          1048576 * ch.lastResult.code) ∧
      holds (at' + 24)
        (ch.recordHandle.val + 32 * ch.bound.isSome.toNat + (if ch.direction = .fromMemory then 256 else 0) +
          512 * ch.mode.code + (if ch.unitSize = .two then 2048 else 0) + (if ch.memoryStep = .down then 4096 else 0) +
          (if ch.moduleStep = .up then 8192 else 0) + 16384 * ch.reload.toNat) ∧
      holds (at' + 28) ch.baseAddress.toNat ∧ holds (at' + 32) (ch.baseDisplacement % 268435456) ∧
      holds (at' + 36) (ch.baseCount % 131072) ∧ holds (at' + 40) ch.currentAddress.toNat ∧
      holds (at' + 44) (ch.currentDisplacement % 268435456) ∧ holds (at' + 48) (ch.currentCount % 131072)) ∧
    [ChannelState.idle, .armed, .running, .paused, .done, .aborted].map ChannelState.code = List.range 6 ∧
    [StopPending.none, .pause, .cancel].map StopPending.code = List.range 3 ∧
    [Mode.unit, .demand, .block].map Mode.code = List.range 3 ∧
    [ChannelResult.none, .ok, .wrongState, .notBound, .notLive, .wrongKind, .writeProtected, .badRequest].map
      ChannelResult.code = List.range 8 ∧
    -- event and fault record words (10.7)
    (let u := s.events
     let f := u.fault.fields
     (∀ i : Fin 4, holds (0x320 + 4 * i.val) (u.enables.get (.slot i)).toNat ∧ holds (0x340 + 4 * i.val) 0) ∧
     holds 0x330 (u.enables.get .system).toNat ∧ holds 0x350 0 ∧
     holds 0x360
       ((if u.clearMode = .writeOneClears then 1 else 0) + (if u.interruptMode = .pulse then 2 else 0)) ∧
     holds 0x364
       (u.output.toNat + 16 * (u.alertSources.get 0).toNat + 32 * (u.alertSources.get 1).toNat +
         64 * (u.alertSources.get 2).toNat + 128 * (u.alertSources.get 3).toNat) ∧
     holds 0x370
       (u.fault.valid.toNat + 2 * u.fault.more.toNat + 16 * f.kind.code + (if f.direction = .write then 128 else 0) +
         256 * (match f.size with
                | .one => 0
                | .two => 1
                | .four => 2) +
         1024 * f.partialMark.toNat + 2048 * f.handle.isSome.toNat + 4096 * (f.handle.map (fun h => h.val)).getD 0 +
         131072 * f.slot.isSome.toNat + 262144 * (f.slot.map (fun i => i.val)).getD 0 +
         1048576 * f.cookie.isSome.toNat) ∧
     [AccessFaultKind.unmapped, .notLive, .fenced, .orphaned, .writeProtected, .timeout, .discardedRead].map
       AccessFaultKind.code = List.range 7 ∧
     holds 0x374 f.address.toNat ∧ holds 0x378 (f.cookie.getD 0).toNat ∧ holds 0x37C 0)

/-! ## The system port -/

/-- The accesses that are refused before lookup (R91, R92, R94, R95): outside both windows, or in aperture space with the
enable clear, UNCLAIMED; in the control window but not 4 bytes at a multiple of 4, ALIGN; in enabled aperture space but
not naturally aligned, ALIGN. None has any other effect. -/
def Obligations.AccessesRefusedBeforeLookup : Prop :=
  ∀ (s : State) (a : Access) (l : Lines),
    let start := 4293918720 + 65536 * s.port.location.val
    let base := 268435456 * s.port.region.val
    let inWindow := start ≤ a.address.toNat ∧ a.address.toNat < start + 4096
    let inSpace := base ≤ a.address.toNat ∧ a.address.toNat < base + 268435456
    (¬inWindow → ¬inSpace ∨ s.port.enable = false →
      exec (.unclaimedAccess a l) s = .next (s.answered (.error .unclaimed)) ∧
      exec (accessCommand a l) s = .next (s.answered (.error .unclaimed))) ∧
    (inWindow → a.size ≠ .four ∨ a.address.toNat % 4 ≠ 0 →
      exec (.controlWindowMisaligned a l) s = .next (s.answered (.error .align)) ∧
      exec (accessCommand a l) s = .next (s.answered (.error .align))) ∧
    (¬inWindow → inSpace → s.port.enable = true → a.address.toNat % a.size.bytes ≠ 0 →
      exec (accessCommand a l) s = .next (s.answered (.error .align)))

/-- The accesses refused at lookup (R96, R97, R100): no entry, or an entry that is STAGED, FENCED or ORPHANED and no
matching held read; the fault is offered and nothing else changes. -/
def Obligations.AccessesRefusedAtLookupAreOffered : Prop :=
  ∀ (s : State) (a : Access) (l : Lines), s.looksUp a →
    (s.coveringEntry a = none →
      exec (accessCommand a l) s =
        .next (((s.offer
          { kind := .unmapped, direction := a.direction, address := a.address, size := a.size, handle := none,
            slot := none, cookie := none, partialMark := false }).settle).answered (.error .unmapped))) ∧
    ∀ h, s.coveringEntry a = some h →
      (∀ r, (s.postingUnit (s.entry h).slot).holder = some r → ¬r.matchedBy a) →
      let offer := fun kind : AccessFaultKind =>
        (s.offer
          { kind := kind, direction := a.direction, address := a.address, size := a.size, handle := some h,
            slot := some (s.entry h).slot, cookie := (s.entry h).cookie, partialMark := false }).settle
      ((s.entry h).state = .staged →
        exec (accessCommand a l) s = .next ((offer .notLive).answered (.error .notLive))) ∧
      ((s.entry h).state = .fenced →
        exec (accessCommand a l) s = .next ((offer .fenced).answered (.error .fenced))) ∧
      ((s.entry h).state = .orphaned →
        exec (accessCommand a l) s = .next ((offer .orphaned).answered (.error .orphaned)))

/-- A write through a LIVE entry (R98, R101, R109): PROTECTED before RETRY, RETRY with 8 items queued, otherwise OK with the
item at the tail, the count up by 1, the used mark set, and then a choice of the sequencer: a busy sequencer is left alone,
and one that is free begins the write at once when nothing else waits, a finished held read or none in the holder (R110,
R126, R129). -/
def Obligations.WritesThroughLiveEntries : Prop :=
  ∀ (s : State) (a : Access) (l : Lines) (h : Handle), s.looksUp a → s.coveringEntry a = some h →
    a.direction = .write → (s.entry h).state = .live →
    let i := (s.entry h).slot
    let p := s.postingUnit i
    ((s.entry h).access = .readOnly →
      exec (accessCommand a l) s =
        .next (((s.offer
          { kind := .writeProtected, direction := .write, address := a.address, size := a.size, handle := some h,
            slot := some i, cookie := (s.entry h).cookie, partialMark := false }).settle).answered
            (.error .writeProtected))) ∧
    ((s.entry h).access = .readWrite → 8 ≤ p.queue.length →
      exec (accessCommand a l) s = .next (s.answered .retry)) ∧
    ((s.entry h).access = .readWrite → p.queue.length < 8 →
      ∃ t item,
        exec (accessCommand a l) s = .next t ∧
        t = ((((s.setPosting i { p with queue := p.queue ++ [item] }).setEntry h
          { s.entry h with inFlight := (s.entry h).inFlight + 1, used := true }).choose i l).settle).answered .ok ∧
        t = { s with
              table := t.table, posting := t.posting, sequencers := t.sequencers, channels := t.channels,
              events := s.events.settle, answer := some .ok } ∧
        (∀ k, t.entry k =
          if k = h then { s.entry h with inFlight := (s.entry h).inFlight + 1, used := true } else s.entry k) ∧
        (∀ j, j ≠ i → t.postingUnit j = s.postingUnit j ∧ t.sequencer j = s.sequencer j) ∧
        item.target = s.captured a h ∧ item.systemAddress = a.address ∧
        (∀ k, k < a.size.bytes → byteAt item.data k = byteAt a.data ((a.address.toNat + k) % 4)) ∧
        (t.postingUnit i).queue = p.queue ++ [item] ∧
        ((s.sequencer i).access ≠ none →
          t.postingUnit i = { p with queue := p.queue ++ [item] } ∧ t.sequencer i = s.sequencer i ∧
            t.channels = s.channels) ∧
        ((s.sequencer i).access = none → p.queue = [] →
          (∀ r, p.holder = some r → r.state = .failed ∨ ∃ data, r.state = .ready data) → s.dueChannel i = none →
          t.postingUnit i = { p with queue := [item], headInProgress := true } ∧ t.channels = s.channels ∧
          t.sequencer i =
            { access := some (s.begun i .headWrite .write item.target item.data l), preference := .channel,
              waitTimer := none, partialMark := false }))

/-- A read through a LIVE entry that matches no held read (R99, R101, R115): captured behind the writes then queued if
the holder is EMPTY, followed by a choice of the sequencer, and otherwise answered RETRY with no change; a busy
sequencer is left alone, and one that has nothing else waiting begins the read at once (R116, R126, R129). -/
def Obligations.ReadsThroughLiveEntries : Prop :=
  ∀ (s : State) (a : Access) (l : Lines) (h : Handle), s.looksUp a → s.coveringEntry a = some h →
    a.direction = .read → (s.entry h).state = .live →
    let i := (s.entry h).slot
    let p := s.postingUnit i
    (∀ r, p.holder = some r → ¬r.matchedBy a → exec (accessCommand a l) s = .next (s.answered .retry)) ∧
    (p.holder = none →
      ∃ t, exec (accessCommand a l) s = .next t ∧
        t = ((((s.setPosting i
          { p with
            holder := some { target := s.captured a h, systemAddress := a.address,
                             state := .waiting p.queue.length } }).setEntry h
          { s.entry h with inFlight := (s.entry h).inFlight + 1, used := true }).choose i l).settle).answered .retry ∧
        t = { s with
              table := t.table, posting := t.posting, sequencers := t.sequencers, channels := t.channels,
              events := s.events.settle, answer := some .retry } ∧
        (∀ k, t.entry k =
          if k = h then { s.entry h with inFlight := (s.entry h).inFlight + 1, used := true } else s.entry k) ∧
        (∀ j, j ≠ i → t.postingUnit j = s.postingUnit j ∧ t.sequencer j = s.sequencer j) ∧
        ((s.sequencer i).access ≠ none →
          t.postingUnit i =
            { p with
              holder := some { target := s.captured a h, systemAddress := a.address,
                               state := .waiting p.queue.length } } ∧
            t.sequencer i = s.sequencer i ∧ t.channels = s.channels) ∧
        ((s.sequencer i).access = none → p.queue = [] → s.dueChannel i = none →
          t.postingUnit i =
            { p with
              holder := some { target := s.captured a h, systemAddress := a.address, state := .issued } } ∧
          t.channels = s.channels ∧
          t.sequencer i =
            { access := some (s.begun i .heldRead .read (s.captured a h) 0 l), preference := .channel,
              waitTimer := none, partialMark := false }))

/-- A matching attempt on a held read, whatever the state of its entry but FREE (R96, R99, R117): RETRY with no change in
WAITING and ISSUED; in READY the data on the lanes of its addresses, in FAILED ERROR(TIMEOUT), and the collection. -/
def Obligations.MatchingReadsCollectTheHeldRead : Prop :=
  ∀ (s : State) (a : Access) (l : Lines) (h : Handle) (r : HeldRead), s.looksUp a → s.coveringEntry a = some h →
    (s.postingUnit (s.entry h).slot).holder = some r → r.matchedBy a →
    let i := (s.entry h).slot
    let emptied := ((s.setPosting i
      { s.postingUnit i with holder := none, collectionTimer := none }).finishOne r.target.handle).settle
    (∀ n, r.state = .waiting n → exec (accessCommand a l) s = .next (s.answered .retry)) ∧
    (r.state = .issued → exec (accessCommand a l) s = .next (s.answered .retry)) ∧
    (∀ data, r.state = .ready data →
      exec (accessCommand a l) s =
        .next (emptied.answered (.okData
          ((List.range a.size.bytes).map (fun k => ((a.address.toNat + k) % 4, byteAt data k)))))) ∧
    (r.state = .failed → exec (accessCommand a l) s = .next (emptied.answered (.error .timeout)))

/-- The finish of an accepted access (R47, R49, R51, R57, R59): the count of the entry it names falls by 1; a FENCED
entry that reaches 0 becomes FREE, its handle joins the retired-handle set with RETIRED, and its channels lose their
binding. -/
def Obligations.FinishingWorkDrainsFencedEntries : Prop :=
  ∀ (s : State) (h : Handle),
    ((s.entry h).state ≠ .fenced ∨ 1 < (s.entry h).inFlight →
      s.finishOne h = s.setEntry h { s.entry h with inFlight := (s.entry h).inFlight - 1 }) ∧
    ((s.entry h).state = .fenced → (s.entry h).inFlight = 1 →
      s.finishOne h =
        { s with
          table := s.table.set h.val Entry.free h.isLt
          retired := s.retired ||| BitVec.twoPow 32 h.val
          channels := s.channels.map (fun c => if c.bound = some h then { c with bound := none } else c)
          events := s.events.raise Flag.retired } ∧
      (s.finishOne h).events.isSet Flag.retired = true)

/-! ## The sequencer and the posting unit -/

/-- What a posting unit offers, by its holder and queue (R110), and a choice at a sequencer (R126, R127, R128, R129):
nothing while an access is in progress or nothing waits; otherwise the waiting source begins, by the preference when
both wait, and the preference turns to the other source. -/
def Obligations.ChoiceServesTheWaitingSourceByPreference : Prop :=
  ∀ (s : State) (i : SlotId) (l : Lines),
    let p := s.postingUnit i
    let ready := fun (c : ChannelId) (u : UnitInProgress) =>
      ((s.channel c).state = .armed ∨ (s.channel c).state = .running) ∧ (s.channel c).unit = some u ∧
        u.half = .moduleHalf ∧ u.moduleBegun = false ∧ s.channelSlot c = some i
    (∀ q : PostingUnit,
      let head := match q.queue with
        | [] => none
        | item :: _ => some (SystemWork.headWrite item)
      (q.holder = none → q.offered = head) ∧
      ∀ r, q.holder = some r →
        (r.state = .waiting 0 → q.offered = some (.heldRead r)) ∧
        (∀ n, 0 < n → r.state = .waiting n → q.offered = head) ∧
        (r.state = .issued → q.offered = none) ∧
        (r.state = .failed ∨ (∃ data, r.state = .ready data) → q.offered = head)) ∧
    ((s.sequencer i).access ≠ none → s.choose i l = s) ∧
    ((s.sequencer i).access = none → p.offered = none → (∀ c u, ¬ready c u) → s.choose i l = s) ∧
    (∀ item, (s.sequencer i).access = none → p.offered = some (.headWrite item) →
      (s.sequencer i).preference = .system ∨ (∀ c u, ¬ready c u) →
      s.choose i l =
        (s.setPosting i { p with headInProgress := true }).setSequencer i
          { access := some (s.begun i .headWrite .write item.target item.data l), preference := .channel,
            waitTimer := none, partialMark := false }) ∧
    (∀ r, (s.sequencer i).access = none → p.offered = some (.heldRead r) →
      (s.sequencer i).preference = .system ∨ (∀ c u, ¬ready c u) →
      s.choose i l =
        (s.setPosting i { p with holder := some { r with state := .issued } }).setSequencer i
          { access := some (s.begun i .heldRead .read r.target 0 l), preference := .channel, waitTimer := none,
            partialMark := false }) ∧
    (∀ c u, (s.sequencer i).access = none → ready c u → (∀ d v, d < c → ¬ready d v) →
      (s.sequencer i).preference = .channel ∨ p.offered = none →
      s.choose i l =
        (s.setChannel c { s.channel c with unit := some { u with moduleBegun := true } }).setSequencer i
          { access := some (s.begun i (.channelHalf c)
              (if (s.channel c).direction = .toMemory then .read else .write) u.target
              (if (s.channel c).direction = .toMemory then 0 else u.data.setWidth 32) l)
            preference := .system, waitTimer := none, partialMark := false })

/-- Module cycles: the plan of an access (R102), the bus lines in a cycle and at idle (R103, R130, R131, R139), and
samples and ends of cycles (R130, R132, R133): a sample with wait asserted extends the strobe by a period and starts the
wait timer if it is stopped; one with wait deasserted stops the timer, takes the bytes of a read from the enabled lanes
and begins the hold phase; in setup and in hold the line is not watched; the end of a cycle that is not the last sets
the partial mark and begins the next. That a sample in strobe, and an end in hold, act whatever periods are left is the
model's choice (log 9). -/
def Obligations.ModuleCyclesSampleAndAdvance : Prop :=
  (∀ (g : Target) (widthSense : Bool),
    let m := g.moduleAddress
    let byteAt' := fun k : Nat =>
      ({ address := (m + k) % (if g.space = .port then 65536 else 67108864), isWord := false, firstByte := k } : Cycle)
    let wordAt := fun k : Nat =>
      ({ address := (m + k) % (if g.space = .port then 65536 else 67108864), isWord := true, firstByte := k } : Cycle)
    let words := m % 2 = 0 ∧ (g.width = .word ∨ (g.width = .sensed ∧ widthSense = true))
    (g.size = .one → cyclePlan g widthSense = [byteAt' 0]) ∧
    (g.size = .two → words → cyclePlan g widthSense = [wordAt 0]) ∧
    (g.size = .two → ¬words → cyclePlan g widthSense = [byteAt' 0, byteAt' 1]) ∧
    (g.size = .four → words → cyclePlan g widthSense = [wordAt 0, wordAt 2]) ∧
    (g.size = .four → ¬words → cyclePlan g widthSense = [byteAt' 0, byteAt' 1, byteAt' 2, byteAt' 3])) ∧
  (∀ q : Sequencer,
    (q.access = none →
      q.lines =
        { address := 0, space := none, lowerLane := false, upperLane := false, readStrobe := false,
          writeStrobe := false, data := none, acknowledge := false }) ∧
    ∀ a c, q.access = some a → a.plan[a.index]? = some c →
      q.lines.address = BitVec.ofNat 26 c.address ∧ q.lines.space = some a.target.space ∧
      (q.lines.lowerLane = true ↔ c.isWord = true ∨ c.address % 2 = 0) ∧
      (q.lines.upperLane = true ↔ c.isWord = true ∨ c.address % 2 = 1) ∧
      (q.lines.readStrobe = true ↔ a.phase = .strobe ∧ a.direction = .read) ∧
      (q.lines.writeStrobe = true ↔ a.phase = .strobe ∧ a.direction = .write) ∧
      (a.direction = .read → q.lines.data = none) ∧
      (a.direction = .write → ∃ lines, q.lines.data = some lines ∧
        lines.extractLsb' 0 8 = byteAt a.data c.firstByte ∧
        lines.extractLsb' 8 8 = byteAt a.data (if c.isWord then c.firstByte + 1 else c.firstByte)) ∧
      (q.lines.acknowledge = true ↔ ∃ k, a.source = .channelHalf k)) ∧
  ∀ (s : State) (i : SlotId) (a : BusAccess) (c : Cycle) (lines : BitVec 16), (s.sequencer i).access = some a →
    a.plan[a.index]? = some c →
    (a.phase = .strobe → (s.sequencer i).waitTimer = none →
      exec (.waitSample i true lines) s =
        .next (s.setSequencer i
          { s.sequencer i with
            access := some { a with periods := 1 }, waitTimer := some a.waitLimit })) ∧
    (∀ t, a.phase = .strobe → (s.sequencer i).waitTimer = some t →
      exec (.waitSample i true lines) s =
        .next (s.setSequencer i
          { s.sequencer i with access := some { a with periods := 1 } })) ∧
    (a.phase = .strobe → a.direction = .write →
      exec (.waitSample i false lines) s =
        .next (s.setSequencer i
          { s.sequencer i with
            access := some { a with phase := .hold, periods := a.profile.hold }, waitTimer := none })) ∧
    (a.phase = .strobe → a.direction = .read →
      ∃ data : Word,
        exec (.waitSample i false lines) s =
          .next (s.setSequencer i
            { s.sequencer i with
              access := some { a with phase := .hold, periods := a.profile.hold, data := data }
              waitTimer := none }) ∧
        ∀ k, k < 4 → byteAt data k =
          if c.isWord then
            if k = c.firstByte + 1 then lines.extractLsb' 8 8
            else if k = c.firstByte then lines.extractLsb' 0 8 else byteAt a.data k
          else if k = c.firstByte then
            if c.address % 2 = 0 then lines.extractLsb' 0 8 else lines.extractLsb' 8 8
          else byteAt a.data k) ∧
    (a.phase ≠ .strobe → ∀ waiting, exec (.waitSample i waiting lines) s = .next s) ∧
    (a.phase = .hold → a.index + 1 < a.plan.length →
      exec (.moduleCycleEnd i) s =
        .next (s.setSequencer i
          { s.sequencer i with
            access := some
              { a with
                index := a.index + 1
                phase := if a.profile.setup = 0 then .strobe else .setup
                periods := if a.profile.setup = 0 then a.profile.strobe else a.profile.setup }
            partialMark := true }))

/-- The completion of an access at the end of its last cycle (R104, R111, R116, R119, R134, R152, R153): a head item
leaves the queue and is finished, a held read is READY with its collection timer running, a module read's data goes to
the memory half, a module write ends its unit; then the sequencer, free with its preference kept, chooses. -/
def Obligations.CompletionsReportToTheirSource : Prop :=
  ∀ (s : State) (i : SlotId) (a : BusAccess) (l : Lines), (s.sequencer i).access = some a → a.phase = .hold →
    a.index + 1 = a.plan.length →
    let f := s.setSequencer i { s.sequencer i with access := none, waitTimer := none, partialMark := false }
    let p := s.postingUnit i
    (∀ item rest, a.source = .headWrite → p.queue = item :: rest →
      exec (.accessCompletion i l) s =
        .next ((((f.setPosting i
          { p with
            queue := rest, headInProgress := false
            holder := p.holder.map (fun r =>
              match r.state with
              | .waiting n => { r with state := .waiting (n - 1) }
              | _ => r) }).finishOne item.target.handle).choose i l).settle)) ∧
    (∀ r, a.source = .heldRead → p.holder = some r →
      exec (.accessCompletion i l) s =
        .next (((f.setPosting i
          { p with
            holder := some { r with state := .ready a.data }
            collectionTimer := some (1000000 * s.collectionLimit) }).choose i l).settle)) ∧
    (∀ c u, a.source = .channelHalf c → (s.channel c).unit = some u → a.direction = .write →
      exec (.accessCompletion i l) s = .next (((f.endUnit c l).choose i l).settle)) ∧
    (∀ c u, a.source = .channelHalf c → (s.channel c).unit = some u → a.direction = .read →
      let address := if (s.channel c).unitSize = .two then u.memoryAddress &&& 0xFFFFFFFE else u.memoryAddress
      let handed := f.setChannel c
        { s.channel c with unit := some { u with half := .memoryHalf, data := a.data.setWidth 16 } }
      (s.port.blocksMaster address = false →
        exec (.accessCompletion i l) s =
          .next (((handed.setMemory c (some
            { address := address, size := if (s.channel c).unitSize = .two then .two else .one, direction := .write,
              data := a.data.setWidth 16, retries := 0 })).choose i l).settle)) ∧
      (s.port.blocksMaster address = true →
        exec (.accessCompletion i l) s = .next (((handed.abortChannel c .memoryError).choose i l).settle)))

/-- The expiry of the wait timer and of the collection timer (R112, R116, R120, R133, R135 to R137): a head item is
discarded and counted with DATA_LOST, a held read is FAILED, each with a TIMEOUT offer that carries the cookie as it
stands and the partial mark; a channel's module half aborts its channel without an offer; a read not collected is
released with DISCARDED_READ and READ_DISCARDED. -/
def Obligations.TimersFailOrReleaseTheirAccess : Prop :=
  ∀ (s : State) (i : SlotId) (l : Lines),
    let p := s.postingUnit i
    let offer := fun (kind : AccessFaultKind) (d : Direction) (g : Target) (address : Word) (mark : Bool) =>
      s.offer
        { kind := kind, direction := d, address := address, size := g.size, handle := some g.handle, slot := some i,
          cookie := (s.entry g.handle).cookie, partialMark := mark }
    let freed := { s.sequencer i with access := none, waitTimer := none, partialMark := false }
    (∀ a w item rest, (s.sequencer i).access = some a → (s.sequencer i).waitTimer = some w → a.source = .headWrite →
      p.queue = item :: rest →
      exec (.waitTimeout i l) s =
        .next (((((((offer .timeout .write item.target item.systemAddress (s.sequencer i).partialMark).setSequencer i
          freed).setPosting i
            { p with
              queue := rest, headInProgress := false, discarded := min 65535 (p.discarded + 1)
              holder := p.holder.map (fun r =>
                match r.state with
                | .waiting n => { r with state := .waiting (n - 1) }
                | _ => r) }).raise (Flag.dataLost i)).finishOne item.target.handle).choose i l).settle)) ∧
    (∀ a w r, (s.sequencer i).access = some a → (s.sequencer i).waitTimer = some w → a.source = .heldRead →
      p.holder = some r →
      exec (.waitTimeout i l) s =
        .next (((((offer .timeout .read r.target r.systemAddress (s.sequencer i).partialMark).setSequencer i
          freed).setPosting i
            { p with
              holder := some { r with state := .failed }
              collectionTimer := some (1000000 * s.collectionLimit) }).choose i l).settle)) ∧
    (∀ a w c, (s.sequencer i).access = some a → (s.sequencer i).waitTimer = some w → a.source = .channelHalf c →
      exec (.waitTimeout i l) s =
        .next ((((s.setSequencer i freed).abortChannel c .moduleTimeout).choose i l).settle)) ∧
    (∀ r w, p.holder = some r → p.collectionTimer = some w → r.state = .failed ∨ (∃ data, r.state = .ready data) →
      exec (.collectionTimerExpiry i) s =
        .next ((((((offer .discardedRead .read r.target r.systemAddress false).setPosting i
          { p with holder := none, collectionTimer := none }).finishOne r.target.handle).raise
            (Flag.readDiscarded i))).settle))


/-! ## Channels -/

/-- The start of a unit (R104, R152), and an abort (R154, R155): the unit is in progress with its translation and the memory
address it read; a FROM_MEMORY unit hands its memory read to the master side, which refuses an address in the part's own
windows with MEMORY_ERROR; an abort ends the unit, records its cause and raises CHANNEL_ABORT. -/
def Obligations.UnitsStartWithTheirTranslation : Prop :=
  (∀ (s : State) (c : ChannelId) (h : Handle), (s.channel c).bound = some h →
    let ch := s.channel c
    let e := s.entry h
    let target : Target :=
      { handle := h, space := e.space
        moduleAddress :=
          (ch.currentDisplacement + e.moduleOffset) % (if e.space = .port then 65536 else 67108864)
        width := e.width, timingClass := e.timingClass, size := if ch.unitSize = .two then .two else .one }
    let address := if ch.unitSize = .two then ch.currentAddress &&& 0xFFFFFFFE else ch.currentAddress
    let started := fun half : Half =>
      s.setChannel c
        { ch with
          state := .running
          unit := some { half := half, target := target, memoryAddress := ch.currentAddress, data := 0,
                         moduleBegun := false } }
    (ch.direction = .toMemory → s.startUnit c = started .moduleHalf) ∧
    (ch.direction = .fromMemory → s.port.blocksMaster address = false →
      s.startUnit c =
        (started .memoryHalf).setMemory c (some
          { address := address, size := if ch.unitSize = .two then .two else .one, direction := .read, data := 0,
            retries := 0 })) ∧
    (ch.direction = .fromMemory → s.port.blocksMaster address = true →
      s.startUnit c = (started .memoryHalf).abortChannel c .memoryError)) ∧
  (∀ (p : Port) (address : Word),
    let start := 4293918720 + 65536 * p.location.val
    let base := 268435456 * p.region.val
    p.blocksMaster address = true ↔
      (start ≤ address.toNat ∧ address.toNat < start + 4096) ∨
        (p.enable = true ∧ base ≤ address.toNat ∧ address.toNat < base + 268435456)) ∧
  ∀ (s : State) (c : ChannelId) (cause : AbortCause),
    s.abortChannel c cause =
      { s with
        channels := s.channels.set c
          { s.channel c with
            state := .aborted, abortCause := some cause, unit := none, stopPending := .none, resumeState := none,
            unitDue := false }
        memory := s.memory.set c none
        events := s.events.raise (Flag.channelAbort c) } ∧
    (s.abortChannel c cause).events.isSet (Flag.channelAbort c) = true

/-- The end of a unit (R151, R153): the count, the memory address and the displacement step; at count 0 CHANNEL_DONE and
terminal count; then a pending stop; then the next unit, when the mode makes one due. That the next unit of a BLOCK
pass, and a UNIT channel's unit already due, start with the request mask set as well is the model's reading (log 10). -/
def Obligations.UnitsEndInOrder : Prop :=
  ∀ (s : State) (c : ChannelId) (h : Handle) (l : Lines), (s.channel c).bound = some h →
    (s.channel c).state = .running →
    let ch := s.channel c
    let size := if ch.unitSize = .two then 2 else 1
    let length := 4096 * (s.entry h).granuleCount
    let level := (l.get (s.entry h).slot).request
    let stepped : Channel :=
      { ch with
        unit := none, currentCount := ch.currentCount - 1
        currentAddress := if ch.memoryStep = .up then ch.currentAddress + BitVec.ofNat 32 size
                          else ch.currentAddress - BitVec.ofNat 32 size
        currentDisplacement :=
          if ch.moduleStep = .fixed then ch.currentDisplacement
          else if ch.currentDisplacement + size < length then ch.currentDisplacement + size
          else ch.currentDisplacement + size - length }
    let reloaded : Channel :=
      { stepped with
        state := .armed, currentCount := ch.baseCount, currentAddress := ch.baseAddress
        currentDisplacement := ch.baseDisplacement }
    let done := fun x : Channel => (s.setChannel c x).raise (Flag.channelDone c)
    (1 < ch.currentCount →
      (ch.stopPending = .pause →
        s.endUnit c l =
          s.setChannel c { stepped with state := .paused, resumeState := some .running, stopPending := .none }) ∧
      (ch.stopPending = .cancel →
        s.endUnit c l =
          s.setChannel c { stepped with state := .idle, unitDue := false, resumeState := none, stopPending := .none }) ∧
      (ch.stopPending = .none → ch.mode = .block → s.endUnit c l = (s.setChannel c stepped).startUnit c) ∧
      (ch.stopPending = .none → ch.mode = .unit → ch.unitDue = true →
        s.endUnit c l = (s.setChannel c { stepped with unitDue := false }).startUnit c) ∧
      (ch.stopPending = .none → ch.mode = .demand → ch.mask = false → level = true →
        s.endUnit c l = (s.setChannel c stepped).startUnit c) ∧
      (ch.stopPending = .none →
        (ch.mode = .unit ∧ ch.unitDue = false) ∨ (ch.mode = .demand ∧ (ch.mask = true ∨ level = false)) →
        s.endUnit c l = s.setChannel c stepped)) ∧
    (ch.currentCount = 1 → ch.reload = false →
      s.endUnit c l = done { stepped with state := .done, stopPending := .none, unitDue := false }) ∧
    (ch.currentCount = 1 → ch.reload = true →
      (ch.stopPending = .pause →
        s.endUnit c l = done { reloaded with state := .paused, resumeState := some .armed, stopPending := .none }) ∧
      (ch.stopPending = .cancel →
        s.endUnit c l =
          done { reloaded with state := .idle, unitDue := false, resumeState := none, stopPending := .none }) ∧
      (ch.stopPending = .none → ch.mode = .unit → ch.unitDue = true →
        s.endUnit c l = (done { reloaded with unitDue := false }).startUnit c) ∧
      (ch.stopPending = .none → ch.mode = .demand → ch.mask = false → level = true →
        s.endUnit c l = (done reloaded).startUnit c) ∧
      (ch.stopPending = .none →
        ch.mode = .block ∨ (ch.mode = .unit ∧ ch.unitDue = false) ∨
          (ch.mode = .demand ∧ (ch.mask = true ∨ level = false)) →
        s.endUnit c l = done reloaded))

/-- CONFIGURE by its checks in order (R143, R144). That the record's configuration word then shows handle 0 for no entry
is the model's choice (log 24). -/
def Obligations.ConfigureLoadsTheSettingWords : Prop :=
  ∀ (s : State) (c : ChannelId),
    let w := s.settings.get c
    let ch := s.channel c
    let active := ch.state = .armed ∨ ch.state = .running ∨ ch.state = .paused
    let refused := fun r : ChannelResult => (s.setChannel c { ch with lastResult := r }).answered .ok
    let count := if bits w.count 15 0 = 0 then 65536 else bits w.count 15 0
    let loaded := fun (bound : Option Handle) (displacement : Nat) (mode : Mode) =>
      (s.setChannel c
        { ch with
          state := .idle, bound := bound, mode := mode
          direction := if w.control.getLsbD 8 then .fromMemory else .toMemory
          unitSize := if w.control.getLsbD 11 then .two else .one
          memoryStep := if w.control.getLsbD 12 then .down else .up
          moduleStep := if w.control.getLsbD 13 then .up else .fixed
          reload := w.control.getLsbD 14
          baseAddress := w.memoryAddress, currentAddress := w.memoryAddress
          baseDisplacement := displacement, currentDisplacement := displacement
          baseCount := count, currentCount := count
          stopPending := .none, unitDue := false, abortCause := none, lastResult := .ok,
          recordHandle := bound.getD 0 }).answered .ok
    let mode := fun m : Mode => bits w.control 10 9 = match m with
      | .unit => 0
      | .demand => 1
      | .block => 2
    (bits w.control 10 9 = 3 → exec (.configure c) s = .next (refused .badRequest)) ∧
    (bits w.control 10 9 ≠ 3 → active → exec (.configure c) s = .next (refused .wrongState)) ∧
    (∀ m, ¬active → mode m → w.control.getLsbD 5 = false →
      exec (.configure c) s = .next (loaded none (bits w.displacement 27 0) m)) ∧
    ∀ h : Handle, w.control.getLsbD 5 = true → bits w.control 4 0 = h.val → ¬active →
      (bits w.control 10 9 ≠ 3 → (s.entry h).state = .free → exec (.configure c) s = .next (refused .notBound)) ∧
      (∀ m, mode m → (s.entry h).state ≠ .free →
        exec (.configure c) s =
          .next (loaded (some h) (bits w.displacement 27 0 % (4096 * (s.entry h).granuleCount)) m))

/-- ARM by its checks in order (R145): an armed channel waits, but for a DEMAND channel that is unmasked and finds its line
asserted, which starts a unit. -/
def Obligations.ArmChecksInOrder : Prop :=
  ∀ (s : State) (c : ChannelId) (l : Lines),
    let ch := s.channel c
    let refused := fun r : ChannelResult => (s.setChannel c { ch with lastResult := r }).answered .ok
    let armed := s.setChannel c { ch with state := .armed, lastResult := .ok }
    (ch.state ≠ .idle → exec (.arm c l) s = .next (refused .wrongState)) ∧
    (ch.state = .idle → (∀ h, ch.bound = some h → (s.entry h).state ≠ .live) →
      exec (.arm c l) s = .next (refused .notLive)) ∧
    ∀ h, ch.state = .idle → ch.bound = some h → (s.entry h).state = .live →
      let kind := (s.slot (s.entry h).slot).identity.kind
      let protects := ch.direction = .fromMemory ∧ (s.entry h).access = .readOnly
      let demands := ch.mode = .demand ∧ ch.mask = false ∧ (l.get (s.entry h).slot).request = true ∧
        ch.stopPending = .none ∧ ch.unit = none
      (protects → exec (.arm c l) s = .next (refused .writeProtected)) ∧
      (¬protects → ch.mode ≠ .block → kind = some .memory → exec (.arm c l) s = .next (refused .wrongKind)) ∧
      (¬protects → ch.mode = .block ∨ kind ≠ some .memory → ¬demands →
        exec (.arm c l) s = .next (((armed.chooseFor c l).settle).answered .ok)) ∧
      (¬protects → kind ≠ some .memory → demands →
        exec (.arm c l) s = .next ((((armed.startUnit c).chooseFor c l).settle).answered .ok))

/-- START and UNMASK (R146, R150): a BLOCK channel in ARMED begins its pass, whatever its mask; any other START is
refused. An UNMASK clears the mask in every state, and a DEMAND channel whose line is asserted then has a unit due at
once. -/
def Obligations.StartBeginsThePassAndUnmaskClearsTheMask : Prop :=
  ∀ (s : State) (c : ChannelId) (l : Lines),
    let ch := s.channel c
    let unmasked := s.setChannel c { ch with mask := false, lastResult := .ok }
    let demands := ch.mode = .demand ∧ s.requestLevel c l = true ∧ (ch.state = .armed ∨ ch.state = .running) ∧
      ch.stopPending = .none ∧ ch.unit = none
    (ch.state = .armed → ch.mode = .block →
      exec (.start c l) s =
        .next (((((s.setChannel c { ch with state := .running, lastResult := .ok }).startUnit c).chooseFor c
          l).settle).answered .ok)) ∧
    (ch.state ≠ .armed ∨ ch.mode ≠ .block →
      exec (.start c l) s = .next ((s.setChannel c { ch with lastResult := .wrongState }).answered .ok)) ∧
    (¬demands → exec (.unmask c l) s = .next (((unmasked.chooseFor c l).settle).answered .ok)) ∧
    (demands → exec (.unmask c l) s = .next ((((unmasked.startUnit c).chooseFor c l).settle).answered .ok))

/-- PAUSE, CANCEL and RESUME by what each finds (R147, R148, R149). -/
def Obligations.PauseCancelAndResumeByState : Prop :=
  ∀ (s : State) (c : ChannelId) (l : Lines),
    let ch := s.channel c
    let put := fun x : Channel => (s.setChannel c x).answered .ok
    let stopped := ch.state = .idle ∨ ch.state = .done ∨ ch.state = .aborted
    (stopped ∨ ch.state = .paused → exec (.pause c) s = .next (put { ch with lastResult := .wrongState })) ∧
    (ch.state = .armed →
      exec (.pause c) s =
        .next (put { ch with state := .paused, resumeState := some .armed, stopPending := .none, lastResult := .ok })) ∧
    (ch.state = .running → ch.unit = none →
      exec (.pause c) s =
        .next (put
          { ch with state := .paused, resumeState := some .running, stopPending := .none, lastResult := .ok })) ∧
    (ch.state = .running → ch.unit ≠ none →
      exec (.pause c) s =
        .next (put
          { ch with stopPending := if ch.stopPending = .cancel then .cancel else .pause, lastResult := .ok })) ∧
    (stopped → exec (.cancel c) s = .next (put { ch with lastResult := .wrongState })) ∧
    (ch.state = .armed ∨ ch.state = .paused ∨ (ch.state = .running ∧ ch.unit = none) →
      exec (.cancel c) s =
        .next (put
          { ch with state := .idle, unitDue := false, resumeState := none, stopPending := .none, lastResult := .ok })) ∧
    (ch.state = .running → ch.unit ≠ none →
      exec (.cancel c) s = .next (put { ch with stopPending := .cancel, lastResult := .ok })) ∧
    (ch.state ≠ .paused → exec (.resume c l) s = .next (put { ch with lastResult := .wrongState })) ∧
    ∀ r, ch.state = .paused → ch.unit = none → ch.stopPending = .none → ch.resumeState = some r →
      let back := { ch with
        state := match r with
          | .armed => .armed
          | .running => .running
        resumeState := none, lastResult := .ok }
      let ended := fun t : State => ((t.chooseFor c l).settle).answered .ok
      (ch.mode = .block → r = .running → exec (.resume c l) s = .next (ended ((s.setChannel c back).startUnit c))) ∧
      (ch.mode = .unit → ch.unitDue = true →
        exec (.resume c l) s = .next (ended ((s.setChannel c { back with unitDue := false }).startUnit c))) ∧
      (ch.mode = .demand → ch.mask = false → s.requestLevel c l = true →
        exec (.resume c l) s = .next (ended ((s.setChannel c back).startUnit c))) ∧
      ((ch.mode = .block ∧ r = .armed) ∨ (ch.mode = .unit ∧ ch.unitDue = false) ∨
          (ch.mode = .demand ∧ (ch.mask = true ∨ s.requestLevel c l = false)) →
        exec (.resume c l) s = .next (ended (s.setChannel c back)))

/-- An assertion of a transfer request line (R126, R150, R151): each channel of the slot that is unmasked and ARMED or
RUNNING takes it by its mode, every other channel is left as it is, exactly the channels whose unit fails at issue raise
CHANNEL_ABORT, and then the sequencer chooses. -/
def Obligations.AssertionsAreTakenByTheSlotsChannels : Prop :=
  ∀ (s : State) (i : SlotId) (l : Lines),
    ∃ m : State, exec (.transferRequestAssertion i l) s = .next ((m.choose i l).settle) ∧
      m = { s with channels := m.channels, memory := m.memory, events := m.events } ∧
      s.events.Raised m.events (fun f => ∃ c : ChannelId,
        let ch := s.channel c
        f = Flag.channelAbort c ∧ s.channelSlot c = some i ∧ ch.mask = false ∧
        (ch.state = .armed ∨ ch.state = .running) ∧ ch.unit = none ∧ ch.stopPending = .none ∧
        (ch.mode ≠ .block ∨ ch.state = .armed) ∧ ch.direction = .fromMemory ∧
        s.port.blocksMaster (if ch.unitSize = .two then ch.currentAddress &&& 0xFFFFFFFE else ch.currentAddress) =
          true) ∧
      ∀ c : ChannelId,
        let ch := s.channel c
        let takes := s.channelSlot c = some i ∧ ch.mask = false ∧ (ch.state = .armed ∨ ch.state = .running)
        let held := ch.unit ≠ none ∨ ch.stopPending ≠ .none
        (¬takes → m.channel c = ch ∧ m.memoryRecord c = s.memoryRecord c) ∧
        (takes → ch.mode = .unit → held →
          m.channel c = { ch with unitDue := true } ∧ m.memoryRecord c = s.memoryRecord c) ∧
        (takes → ch.mode = .demand → held → m.channel c = ch ∧ m.memoryRecord c = s.memoryRecord c) ∧
        (takes → ch.mode = .block → held ∨ ch.state = .running →
          m.channel c = ch ∧ m.memoryRecord c = s.memoryRecord c) ∧
        (takes → ¬held → ch.mode ≠ .block ∨ ch.state = .armed →
          m.channel c = (s.startUnit c).channel c ∧ m.memoryRecord c = (s.startUnit c).memoryRecord c)

/-- The interconnect's answer to a channel's memory access (R104, R105, R106, R152): OK hands read data to the module
half or ends the unit, RETRY issues the access again up to 256 times, and an ERROR, a 257th RETRY or an address now in
the part's own windows aborts the channel; an answer that finds no access in progress is dropped. -/
def Obligations.MemoryAnswersEndOrRepeatTheHalf : Prop :=
  ∀ (s : State) (c : ChannelId) (l : Lines),
    (∀ a, s.memoryRecord c = none → exec (.memoryAnswer c a l) s = .next s) ∧
    ∀ m, s.memoryRecord c = some m →
      (m.retries < 256 → s.port.blocksMaster m.address = false →
        exec (.memoryAnswer c .retry l) s =
          .next ((s.setMemory c (some { m with retries := m.retries + 1 })).settle)) ∧
      (m.retries < 256 → s.port.blocksMaster m.address = true →
        exec (.memoryAnswer c .retry l) s = .next ((s.abortChannel c .memoryError).settle)) ∧
      (256 ≤ m.retries →
        exec (.memoryAnswer c .retry l) s = .next ((s.abortChannel c .memoryBusy).settle)) ∧
      exec (.memoryAnswer c .error l) s = .next ((s.abortChannel c .memoryError).settle) ∧
      (∀ u data, (s.channel c).unit = some u → m.direction = .read →
        exec (.memoryAnswer c (.ok data) l) s =
          .next ((((s.setMemory c none).setChannel c
            { s.channel c with
              unit := some
                { u with half := .moduleHalf, data := if m.size = .one then data &&& 0x00FF else data } }).chooseFor c
            l).settle)) ∧
      (∀ u data, (s.channel c).unit = some u → m.direction = .write →
        exec (.memoryAnswer c (.ok data) l) s =
          .next ((((s.setMemory c none).endUnit c l).chooseFor c l).settle))

/-! ## Events, the interrupt and the fault record -/

/-- The positions of the 51 flags (10.7), and a raise: it sets the bit of its flag alone, and in PULSE mode a 0-to-1
change of an enabled flag owes a pulse (R159, R168). The event, enable and force words (R159, R160, R162, R163, R164,
R165, R168): reads in READ_CLEARS mode and write-ones clear what they mark but an ALERT flag whose source is asserted;
an enable write changes no flag; a force raises the marked flags; in PULSE mode a pulse is owed for each newly enabled
set flag and each newly set enabled flag. -/
def Obligations.EventEnableAndForceWords : Prop :=
  (∀ i : Fin 4,
    [Flag.presence i, Flag.identified i, Flag.sessionUp i, Flag.sessionDown i, Flag.fault i, Flag.badSupply i,
      Flag.alert i, Flag.change i, Flag.dataLost i, Flag.readDiscarded i] =
      (List.range 10).map (fun p => { group := .slot i, position := p }) ∧
    [Flag.commandDone, Flag.retired, Flag.accessFault, Flag.channelDone i, Flag.channelAbort i] =
      [0, 1, 2, 8 + i.val, 12 + i.val].map (fun p => { group := .system, position := p })) ∧
  (∀ (s : State) (f : Flag),
    (match f.group with
      | .slot _ => f.position < 10
      | .system => f.position < 3 ∨ (8 ≤ f.position ∧ f.position < 16)) →
    s.raise f =
      s.setEvents
        { s.events with
          flags := s.events.flags.set f.group (s.events.flags.get f.group ||| BitVec.twoPow 32 f.position)
          pulsesOwed :=
            if s.events.interruptMode = .pulse ∧ (s.events.flags.get f.group).getLsbD f.position = false ∧
                (s.events.enables.get f.group).getLsbD f.position = true then
              min 255 (s.events.pulsesOwed + 1)
            else s.events.pulsesOwed }) ∧
  ∀ (s : State) (g : EventGroup) (v : Word),
    let u := s.events
    let old := u.flags.get g
    let held := fun p : Nat => p = 6 ∧ ∃ i, g = .slot i ∧ u.alertSources.get i = true
    let word := Answer.okData [(0, byteAt old 0), (1, byteAt old 1), (2, byteAt old 2), (3, byteAt old 3)]
    let marks := v &&& (match g with
      | .slot _ => 0x3FF
      | .system => 0xFF07)
    let owed := fun n : Nat => match u.interruptMode with
      | .level => u.pulsesOwed
      | .pulse => if n = 0 then u.pulsesOwed else min 255 (u.pulsesOwed + n)
    (u.clearMode = .readClears →
      exec (.eventWordWrite g v) s = .next (s.answered .ok) ∧
      ∃ kept : Word, (∀ p, p < 32 → (kept.getLsbD p = true ↔ old.getLsbD p = true ∧ held p)) ∧
        exec (.eventWordRead g) s =
          .next (((s.setEvents { u with flags := u.flags.set g kept }).settle).answered word)) ∧
    (u.clearMode = .writeOneClears →
      exec (.eventWordRead g) s = .next (s.answered word) ∧
      ∃ kept : Word,
        (∀ p, p < 32 → (kept.getLsbD p = true ↔ old.getLsbD p = true ∧ (v.getLsbD p = false ∨ held p))) ∧
        exec (.eventWordWrite g v) s =
          .next (((s.setEvents { u with flags := u.flags.set g kept }).settle).answered .ok)) ∧
    exec (.enableWordWrite g v) s =
      .next (((s.setEvents
        { u with
          enables := u.enables.set g marks
          pulsesOwed := owed ((List.range 32).countP (fun p =>
            marks.getLsbD p && !(u.enables.get g).getLsbD p && old.getLsbD p)) }).settle).answered .ok) ∧
    exec (.forceWordWrite g v) s =
      .next (((s.setEvents
        { u with
          flags := u.flags.set g (old ||| marks)
          pulsesOwed := owed ((List.range 32).countP (fun p =>
            marks.getLsbD p && !old.getLsbD p && (u.enables.get g).getLsbD p)) }).settle).answered .ok)

/-- The event control word, the output at the end of an event, and the ends of a pulse and of its gap (R166, R167, R168;
that the output settles at the end of an event is log 11). -/
def Obligations.EventControlAndInterruptPulses : Prop :=
  ∀ (s : State) (v : Word),
    let u := s.events
    let clear : ClearMode := if v.getLsbD 0 then .writeOneClears else .readClears
    ∀ asserted : Bool,
    (asserted = true ↔ ∃ g p, (u.flags.get g).getLsbD p = true ∧ (u.enables.get g).getLsbD p = true) →
    (u.interruptMode = .level → v.getLsbD 1 = true →
      exec (.eventControlWrite v) s =
        .next ((s.setEvents
          { u with
            clearMode := clear, interruptMode := .pulse, output := false, pulsesOwed := 0,
            pulsePhase := .idle }).answered .ok)) ∧
    (u.interruptMode = .pulse → v.getLsbD 1 = false →
      exec (.eventControlWrite v) s =
        .next ((s.setEvents
          { u with
            clearMode := clear, interruptMode := .level, output := asserted, pulsesOwed := 0,
            pulsePhase := .idle }).answered .ok)) ∧
    ((u.interruptMode = .pulse ↔ v.getLsbD 1 = true) →
      exec (.eventControlWrite v) s = .next ((s.setEvents { u with clearMode := clear }).answered .ok)) ∧
    (u.interruptMode = .level → s.settle = s.setEvents { u with output := asserted }) ∧
    (u.interruptMode = .pulse → u.pulsePhase = .idle → 0 < u.pulsesOwed →
      s.settle =
        s.setEvents
          { u with output := true, pulsesOwed := u.pulsesOwed - 1, pulsePhase := .inPulse 200 }) ∧
    (u.interruptMode = .pulse → u.pulsePhase = .idle → u.pulsesOwed = 0 →
      s.settle = s.setEvents { u with output := false }) ∧
    (∀ n, u.pulsePhase = .inPulse n →
      exec .pulseEnd s = .next (s.setEvents { u with output := false, pulsePhase := .inGap 200 })) ∧
    (∀ n, u.pulsePhase = .inGap n → u.interruptMode = .pulse →
      (0 < u.pulsesOwed →
        exec .gapEnd s =
          .next (s.setEvents
            { u with output := true, pulsesOwed := u.pulsesOwed - 1, pulsePhase := .inPulse 200 })) ∧
      (u.pulsesOwed = 0 →
        exec .gapEnd s = .next (s.setEvents { u with output := false, pulsePhase := .idle })))

/-- The access fault record (R169, R170, R171): an offer is captured with ACCESS_FAULT while valid is clear; while valid
is set only more changes, and nothing is raised; a release clears valid and more and keeps the fields and the flag. -/
def Obligations.FaultRecordCapturesAndReleases : Prop :=
  ∀ (s : State) (o : FaultOffer) (v : Word),
    (s.events.fault.valid = false →
      s.offer o =
        (s.setEvents
          { s.events with fault := { s.events.fault with valid := true, fields := o } }).raise Flag.accessFault ∧
      (s.offer o).events.isSet Flag.accessFault = true) ∧
    (s.events.fault.valid = true →
      s.offer o = s.setEvents { s.events with fault := { s.events.fault with more := true } }) ∧
    exec (.faultRelease v) s =
      .next ((s.setEvents
        { s.events with fault := { s.events.fault with valid := false, more := false } }).answered .ok)

/-! ## Invariants -/

/-- Every step keeps the law of the interrupt output (R167, R168). -/
def Obligations.StepsKeepTheOutputLaw : Prop :=
  ∀ s : State, s.events.OutputLaw → ∀ t, step s = .next t → t.events.OutputLaw

/-- Every step keeps the law of the slot controllers (R21, R28, R33). -/
def Obligations.StepsKeepTheSlotLaw : Prop :=
  ∀ s : State, s.SlotLaw → ∀ t, step s = .next t → t.SlotLaw

/-- Every step keeps the law of the aperture table (R41, R44, R45). -/
def Obligations.StepsKeepTheTableLaw : Prop :=
  ∀ s : State, s.TableLaw → ∀ t, step s = .next t → t.TableLaw

/-- Every step keeps the in-flight law with the laws it rests on (R46, R50, R51). -/
def Obligations.StepsKeepTheInFlightLaw : Prop :=
  ∀ s : State, s.Coherent → ∀ t, step s = .next t → t.Coherent

/-- By the in-flight law and the posting law, a queue holds at most 8 items, and queue and holder are empty outside ACTIVE
(R123). -/
def Obligations.QueueAndHolderAreEmptyOutsideActive : Prop :=
  ∀ s : State, s.Coherent → s.PostingLaw →
    (∀ i : SlotId, (s.postingUnit i).queue.length ≤ 8) ∧ s.EmptyWhenInactive

/-- Every step keeps the law of the posting units and sequencers (R108, R110, R113, R114, R116). -/
def Obligations.StepsKeepThePostingLaw : Prop :=
  ∀ s : State, s.PostingLaw → ∀ t, step s = .next t → t.PostingLaw

/-- Every step keeps the laws of the channels: the entry of an active channel, the handle that a bound channel's record
shows, the halves of a unit, the counts and the retries (R104, R105, R142, R152, R176). -/
def Obligations.StepsKeepTheChannelLaws : Prop :=
  ∀ s : State, s.ChannelLaw ∧ s.HalfLaw ∧ s.CountLaw ∧ s.RetryLaw →
    ∀ t, step s = .next t → t.ChannelLaw ∧ t.HalfLaw ∧ t.CountLaw ∧ t.RetryLaw

/-- Every law holds of the reset state. -/
def Obligations.LawsHoldAtReset : Prop :=
  State.reset.events.OutputLaw ∧ State.reset.SlotLaw ∧ State.reset.TableLaw ∧ State.reset.Coherent ∧
  State.reset.PostingLaw ∧ State.reset.ChannelLaw ∧ State.reset.HalfLaw ∧ State.reset.CountLaw ∧ State.reset.RetryLaw
end

