-- ==== Sys2Proof/Laws/State.lean ====
section
/-! SUPPORT. One lemma per field per update: what each setter of State leaves and what it writes, so that no proof unfolds a
record update. -/

namespace Sys2Proof

/-- Reading one of four after writing one of four. -/
@[simp] theorem Quad.get_set {α : Type} (q : Quad α) (i j : Fin 4) (x : α) :
    (q.set i x).get j = if j = i then x else q.get j := by
  fin_cases i <;> fin_cases j <;> rfl

@[simp] theorem Quad.get_all {α : Type} (x : α) (i : Fin 4) : (Quad.all x).get i = x := by
  fin_cases i <;> rfl

@[simp] theorem Quad.get_map {α β : Type} (f : α → β) (q : Quad α) (i : Fin 4) : (q.map f).get i = f (q.get i) := by
  fin_cases i <;> rfl

/-- Two fours are equal when all four agree. -/
theorem Quad.ext_get {α : Type} {p q : Quad α} (h : ∀ i, p.get i = q.get i) : p = q := by
  cases p; cases q
  have h0 := h 0; have h1 := h 1; have h2 := h 2; have h3 := h 3
  simp only [Quad.get] at h0 h1 h2 h3
  simp_all

@[simp] theorem Quad.set_set {α : Type} (q : Quad α) (i : Fin 4) (x y : α) : (q.set i x).set i y = q.set i y := by
  fin_cases i <;> rfl

@[simp] theorem Quad.set_get {α : Type} (q : Quad α) (i : Fin 4) : q.set i (q.get i) = q := by
  fin_cases i <;> rfl

end Sys2Proof

namespace Sys2Proof.Machine

/-! ### setSlot -/

@[simp] theorem State.setSlot_port (s : State) (i : SlotId) (x : SlotController) : (s.setSlot i x).port = s.port := rfl
@[simp] theorem State.setSlot_table (s : State) (i : SlotId) (x : SlotController) : (s.setSlot i x).table = s.table := rfl
@[simp] theorem State.setSlot_retired (s : State) (i : SlotId) (x : SlotController) : (s.setSlot i x).retired = s.retired := rfl
@[simp] theorem State.setSlot_command (s : State) (i : SlotId) (x : SlotController) : (s.setSlot i x).command = s.command := rfl
@[simp] theorem State.setSlot_slots (s : State) (i : SlotId) (x : SlotController) : (s.setSlot i x).slots = s.slots.set i x := rfl
@[simp] theorem State.setSlot_posting (s : State) (i : SlotId) (x : SlotController) : (s.setSlot i x).posting = s.posting := rfl
@[simp] theorem State.setSlot_collectionLimit (s : State) (i : SlotId) (x : SlotController) : (s.setSlot i x).collectionLimit = s.collectionLimit := rfl
@[simp] theorem State.setSlot_sequencers (s : State) (i : SlotId) (x : SlotController) : (s.setSlot i x).sequencers = s.sequencers := rfl
@[simp] theorem State.setSlot_memory (s : State) (i : SlotId) (x : SlotController) : (s.setSlot i x).memory = s.memory := rfl
@[simp] theorem State.setSlot_channels (s : State) (i : SlotId) (x : SlotController) : (s.setSlot i x).channels = s.channels := rfl
@[simp] theorem State.setSlot_settings (s : State) (i : SlotId) (x : SlotController) : (s.setSlot i x).settings = s.settings := rfl
@[simp] theorem State.setSlot_events (s : State) (i : SlotId) (x : SlotController) : (s.setSlot i x).events = s.events := rfl
@[simp] theorem State.setSlot_answer (s : State) (i : SlotId) (x : SlotController) : (s.setSlot i x).answer = s.answer := rfl
@[simp] theorem State.setSlot_pending (s : State) (i : SlotId) (x : SlotController) : (s.setSlot i x).pending = s.pending := rfl
@[simp] theorem State.postingUnit_setSlot (s : State) (i : SlotId) (x : SlotController) (j : SlotId) : (s.setSlot i x).postingUnit j = s.postingUnit j := rfl
@[simp] theorem State.sequencer_setSlot (s : State) (i : SlotId) (x : SlotController) (j : SlotId) : (s.setSlot i x).sequencer j = s.sequencer j := rfl
@[simp] theorem State.channel_setSlot (s : State) (i : SlotId) (x : SlotController) (j : ChannelId) : (s.setSlot i x).channel j = s.channel j := rfl
@[simp] theorem State.memoryRecord_setSlot (s : State) (i : SlotId) (x : SlotController) (j : ChannelId) : (s.setSlot i x).memoryRecord j = s.memoryRecord j := rfl
@[simp] theorem State.entry_setSlot (s : State) (i : SlotId) (x : SlotController) (j : Handle) : (s.setSlot i x).entry j = s.entry j := rfl

/-! ### setPosting -/

@[simp] theorem State.setPosting_port (s : State) (i : SlotId) (x : PostingUnit) : (s.setPosting i x).port = s.port := rfl
@[simp] theorem State.setPosting_table (s : State) (i : SlotId) (x : PostingUnit) : (s.setPosting i x).table = s.table := rfl
@[simp] theorem State.setPosting_retired (s : State) (i : SlotId) (x : PostingUnit) : (s.setPosting i x).retired = s.retired := rfl
@[simp] theorem State.setPosting_command (s : State) (i : SlotId) (x : PostingUnit) : (s.setPosting i x).command = s.command := rfl
@[simp] theorem State.setPosting_slots (s : State) (i : SlotId) (x : PostingUnit) : (s.setPosting i x).slots = s.slots := rfl
@[simp] theorem State.setPosting_posting (s : State) (i : SlotId) (x : PostingUnit) : (s.setPosting i x).posting = s.posting.set i x := rfl
@[simp] theorem State.setPosting_collectionLimit (s : State) (i : SlotId) (x : PostingUnit) : (s.setPosting i x).collectionLimit = s.collectionLimit := rfl
@[simp] theorem State.setPosting_sequencers (s : State) (i : SlotId) (x : PostingUnit) : (s.setPosting i x).sequencers = s.sequencers := rfl
@[simp] theorem State.setPosting_memory (s : State) (i : SlotId) (x : PostingUnit) : (s.setPosting i x).memory = s.memory := rfl
@[simp] theorem State.setPosting_channels (s : State) (i : SlotId) (x : PostingUnit) : (s.setPosting i x).channels = s.channels := rfl
@[simp] theorem State.setPosting_settings (s : State) (i : SlotId) (x : PostingUnit) : (s.setPosting i x).settings = s.settings := rfl
@[simp] theorem State.setPosting_events (s : State) (i : SlotId) (x : PostingUnit) : (s.setPosting i x).events = s.events := rfl
@[simp] theorem State.setPosting_answer (s : State) (i : SlotId) (x : PostingUnit) : (s.setPosting i x).answer = s.answer := rfl
@[simp] theorem State.setPosting_pending (s : State) (i : SlotId) (x : PostingUnit) : (s.setPosting i x).pending = s.pending := rfl
@[simp] theorem State.slot_setPosting (s : State) (i : SlotId) (x : PostingUnit) (j : SlotId) : (s.setPosting i x).slot j = s.slot j := rfl
@[simp] theorem State.sequencer_setPosting (s : State) (i : SlotId) (x : PostingUnit) (j : SlotId) : (s.setPosting i x).sequencer j = s.sequencer j := rfl
@[simp] theorem State.channel_setPosting (s : State) (i : SlotId) (x : PostingUnit) (j : ChannelId) : (s.setPosting i x).channel j = s.channel j := rfl
@[simp] theorem State.memoryRecord_setPosting (s : State) (i : SlotId) (x : PostingUnit) (j : ChannelId) : (s.setPosting i x).memoryRecord j = s.memoryRecord j := rfl
@[simp] theorem State.entry_setPosting (s : State) (i : SlotId) (x : PostingUnit) (j : Handle) : (s.setPosting i x).entry j = s.entry j := rfl

/-! ### setSequencer -/

@[simp] theorem State.setSequencer_port (s : State) (i : SlotId) (x : Sequencer) : (s.setSequencer i x).port = s.port := rfl
@[simp] theorem State.setSequencer_table (s : State) (i : SlotId) (x : Sequencer) : (s.setSequencer i x).table = s.table := rfl
@[simp] theorem State.setSequencer_retired (s : State) (i : SlotId) (x : Sequencer) : (s.setSequencer i x).retired = s.retired := rfl
@[simp] theorem State.setSequencer_command (s : State) (i : SlotId) (x : Sequencer) : (s.setSequencer i x).command = s.command := rfl
@[simp] theorem State.setSequencer_slots (s : State) (i : SlotId) (x : Sequencer) : (s.setSequencer i x).slots = s.slots := rfl
@[simp] theorem State.setSequencer_posting (s : State) (i : SlotId) (x : Sequencer) : (s.setSequencer i x).posting = s.posting := rfl
@[simp] theorem State.setSequencer_collectionLimit (s : State) (i : SlotId) (x : Sequencer) : (s.setSequencer i x).collectionLimit = s.collectionLimit := rfl
@[simp] theorem State.setSequencer_sequencers (s : State) (i : SlotId) (x : Sequencer) : (s.setSequencer i x).sequencers = s.sequencers.set i x := rfl
@[simp] theorem State.setSequencer_memory (s : State) (i : SlotId) (x : Sequencer) : (s.setSequencer i x).memory = s.memory := rfl
@[simp] theorem State.setSequencer_channels (s : State) (i : SlotId) (x : Sequencer) : (s.setSequencer i x).channels = s.channels := rfl
@[simp] theorem State.setSequencer_settings (s : State) (i : SlotId) (x : Sequencer) : (s.setSequencer i x).settings = s.settings := rfl
@[simp] theorem State.setSequencer_events (s : State) (i : SlotId) (x : Sequencer) : (s.setSequencer i x).events = s.events := rfl
@[simp] theorem State.setSequencer_answer (s : State) (i : SlotId) (x : Sequencer) : (s.setSequencer i x).answer = s.answer := rfl
@[simp] theorem State.setSequencer_pending (s : State) (i : SlotId) (x : Sequencer) : (s.setSequencer i x).pending = s.pending := rfl
@[simp] theorem State.slot_setSequencer (s : State) (i : SlotId) (x : Sequencer) (j : SlotId) : (s.setSequencer i x).slot j = s.slot j := rfl
@[simp] theorem State.postingUnit_setSequencer (s : State) (i : SlotId) (x : Sequencer) (j : SlotId) : (s.setSequencer i x).postingUnit j = s.postingUnit j := rfl
@[simp] theorem State.channel_setSequencer (s : State) (i : SlotId) (x : Sequencer) (j : ChannelId) : (s.setSequencer i x).channel j = s.channel j := rfl
@[simp] theorem State.memoryRecord_setSequencer (s : State) (i : SlotId) (x : Sequencer) (j : ChannelId) : (s.setSequencer i x).memoryRecord j = s.memoryRecord j := rfl
@[simp] theorem State.entry_setSequencer (s : State) (i : SlotId) (x : Sequencer) (j : Handle) : (s.setSequencer i x).entry j = s.entry j := rfl

/-! ### setChannel -/

@[simp] theorem State.setChannel_port (s : State) (c : ChannelId) (x : Channel) : (s.setChannel c x).port = s.port := rfl
@[simp] theorem State.setChannel_table (s : State) (c : ChannelId) (x : Channel) : (s.setChannel c x).table = s.table := rfl
@[simp] theorem State.setChannel_retired (s : State) (c : ChannelId) (x : Channel) : (s.setChannel c x).retired = s.retired := rfl
@[simp] theorem State.setChannel_command (s : State) (c : ChannelId) (x : Channel) : (s.setChannel c x).command = s.command := rfl
@[simp] theorem State.setChannel_slots (s : State) (c : ChannelId) (x : Channel) : (s.setChannel c x).slots = s.slots := rfl
@[simp] theorem State.setChannel_posting (s : State) (c : ChannelId) (x : Channel) : (s.setChannel c x).posting = s.posting := rfl
@[simp] theorem State.setChannel_collectionLimit (s : State) (c : ChannelId) (x : Channel) : (s.setChannel c x).collectionLimit = s.collectionLimit := rfl
@[simp] theorem State.setChannel_sequencers (s : State) (c : ChannelId) (x : Channel) : (s.setChannel c x).sequencers = s.sequencers := rfl
@[simp] theorem State.setChannel_memory (s : State) (c : ChannelId) (x : Channel) : (s.setChannel c x).memory = s.memory := rfl
@[simp] theorem State.setChannel_channels (s : State) (c : ChannelId) (x : Channel) : (s.setChannel c x).channels = s.channels.set c x := rfl
@[simp] theorem State.setChannel_settings (s : State) (c : ChannelId) (x : Channel) : (s.setChannel c x).settings = s.settings := rfl
@[simp] theorem State.setChannel_events (s : State) (c : ChannelId) (x : Channel) : (s.setChannel c x).events = s.events := rfl
@[simp] theorem State.setChannel_answer (s : State) (c : ChannelId) (x : Channel) : (s.setChannel c x).answer = s.answer := rfl
@[simp] theorem State.setChannel_pending (s : State) (c : ChannelId) (x : Channel) : (s.setChannel c x).pending = s.pending := rfl
@[simp] theorem State.slot_setChannel (s : State) (c : ChannelId) (x : Channel) (j : SlotId) : (s.setChannel c x).slot j = s.slot j := rfl
@[simp] theorem State.postingUnit_setChannel (s : State) (c : ChannelId) (x : Channel) (j : SlotId) : (s.setChannel c x).postingUnit j = s.postingUnit j := rfl
@[simp] theorem State.sequencer_setChannel (s : State) (c : ChannelId) (x : Channel) (j : SlotId) : (s.setChannel c x).sequencer j = s.sequencer j := rfl
@[simp] theorem State.memoryRecord_setChannel (s : State) (c : ChannelId) (x : Channel) (j : ChannelId) : (s.setChannel c x).memoryRecord j = s.memoryRecord j := rfl
@[simp] theorem State.entry_setChannel (s : State) (c : ChannelId) (x : Channel) (j : Handle) : (s.setChannel c x).entry j = s.entry j := rfl

/-! ### setMemory -/

@[simp] theorem State.setMemory_port (s : State) (c : ChannelId) (x : Option MemoryAccess) : (s.setMemory c x).port = s.port := rfl
@[simp] theorem State.setMemory_table (s : State) (c : ChannelId) (x : Option MemoryAccess) : (s.setMemory c x).table = s.table := rfl
@[simp] theorem State.setMemory_retired (s : State) (c : ChannelId) (x : Option MemoryAccess) : (s.setMemory c x).retired = s.retired := rfl
@[simp] theorem State.setMemory_command (s : State) (c : ChannelId) (x : Option MemoryAccess) : (s.setMemory c x).command = s.command := rfl
@[simp] theorem State.setMemory_slots (s : State) (c : ChannelId) (x : Option MemoryAccess) : (s.setMemory c x).slots = s.slots := rfl
@[simp] theorem State.setMemory_posting (s : State) (c : ChannelId) (x : Option MemoryAccess) : (s.setMemory c x).posting = s.posting := rfl
@[simp] theorem State.setMemory_collectionLimit (s : State) (c : ChannelId) (x : Option MemoryAccess) : (s.setMemory c x).collectionLimit = s.collectionLimit := rfl
@[simp] theorem State.setMemory_sequencers (s : State) (c : ChannelId) (x : Option MemoryAccess) : (s.setMemory c x).sequencers = s.sequencers := rfl
@[simp] theorem State.setMemory_memory (s : State) (c : ChannelId) (x : Option MemoryAccess) : (s.setMemory c x).memory = s.memory.set c x := rfl
@[simp] theorem State.setMemory_channels (s : State) (c : ChannelId) (x : Option MemoryAccess) : (s.setMemory c x).channels = s.channels := rfl
@[simp] theorem State.setMemory_settings (s : State) (c : ChannelId) (x : Option MemoryAccess) : (s.setMemory c x).settings = s.settings := rfl
@[simp] theorem State.setMemory_events (s : State) (c : ChannelId) (x : Option MemoryAccess) : (s.setMemory c x).events = s.events := rfl
@[simp] theorem State.setMemory_answer (s : State) (c : ChannelId) (x : Option MemoryAccess) : (s.setMemory c x).answer = s.answer := rfl
@[simp] theorem State.setMemory_pending (s : State) (c : ChannelId) (x : Option MemoryAccess) : (s.setMemory c x).pending = s.pending := rfl
@[simp] theorem State.slot_setMemory (s : State) (c : ChannelId) (x : Option MemoryAccess) (j : SlotId) : (s.setMemory c x).slot j = s.slot j := rfl
@[simp] theorem State.postingUnit_setMemory (s : State) (c : ChannelId) (x : Option MemoryAccess) (j : SlotId) : (s.setMemory c x).postingUnit j = s.postingUnit j := rfl
@[simp] theorem State.sequencer_setMemory (s : State) (c : ChannelId) (x : Option MemoryAccess) (j : SlotId) : (s.setMemory c x).sequencer j = s.sequencer j := rfl
@[simp] theorem State.channel_setMemory (s : State) (c : ChannelId) (x : Option MemoryAccess) (j : ChannelId) : (s.setMemory c x).channel j = s.channel j := rfl
@[simp] theorem State.entry_setMemory (s : State) (c : ChannelId) (x : Option MemoryAccess) (j : Handle) : (s.setMemory c x).entry j = s.entry j := rfl

/-! ### setEntry -/

@[simp] theorem State.setEntry_port (s : State) (h : Handle) (e : Entry) : (s.setEntry h e).port = s.port := rfl
@[simp] theorem State.setEntry_table (s : State) (h : Handle) (e : Entry) : (s.setEntry h e).table = s.table.set h.val e h.isLt := rfl
@[simp] theorem State.setEntry_retired (s : State) (h : Handle) (e : Entry) : (s.setEntry h e).retired = s.retired := rfl
@[simp] theorem State.setEntry_command (s : State) (h : Handle) (e : Entry) : (s.setEntry h e).command = s.command := rfl
@[simp] theorem State.setEntry_slots (s : State) (h : Handle) (e : Entry) : (s.setEntry h e).slots = s.slots := rfl
@[simp] theorem State.setEntry_posting (s : State) (h : Handle) (e : Entry) : (s.setEntry h e).posting = s.posting := rfl
@[simp] theorem State.setEntry_collectionLimit (s : State) (h : Handle) (e : Entry) : (s.setEntry h e).collectionLimit = s.collectionLimit := rfl
@[simp] theorem State.setEntry_sequencers (s : State) (h : Handle) (e : Entry) : (s.setEntry h e).sequencers = s.sequencers := rfl
@[simp] theorem State.setEntry_memory (s : State) (h : Handle) (e : Entry) : (s.setEntry h e).memory = s.memory := rfl
@[simp] theorem State.setEntry_channels (s : State) (h : Handle) (e : Entry) : (s.setEntry h e).channels = s.channels := rfl
@[simp] theorem State.setEntry_settings (s : State) (h : Handle) (e : Entry) : (s.setEntry h e).settings = s.settings := rfl
@[simp] theorem State.setEntry_events (s : State) (h : Handle) (e : Entry) : (s.setEntry h e).events = s.events := rfl
@[simp] theorem State.setEntry_answer (s : State) (h : Handle) (e : Entry) : (s.setEntry h e).answer = s.answer := rfl
@[simp] theorem State.setEntry_pending (s : State) (h : Handle) (e : Entry) : (s.setEntry h e).pending = s.pending := rfl
@[simp] theorem State.slot_setEntry (s : State) (h : Handle) (e : Entry) (j : SlotId) : (s.setEntry h e).slot j = s.slot j := rfl
@[simp] theorem State.postingUnit_setEntry (s : State) (h : Handle) (e : Entry) (j : SlotId) : (s.setEntry h e).postingUnit j = s.postingUnit j := rfl
@[simp] theorem State.sequencer_setEntry (s : State) (h : Handle) (e : Entry) (j : SlotId) : (s.setEntry h e).sequencer j = s.sequencer j := rfl
@[simp] theorem State.channel_setEntry (s : State) (h : Handle) (e : Entry) (j : ChannelId) : (s.setEntry h e).channel j = s.channel j := rfl
@[simp] theorem State.memoryRecord_setEntry (s : State) (h : Handle) (e : Entry) (j : ChannelId) : (s.setEntry h e).memoryRecord j = s.memoryRecord j := rfl

/-! ### setEvents -/

@[simp] theorem State.setEvents_port (s : State) (u : EventUnit) : (s.setEvents u).port = s.port := rfl
@[simp] theorem State.setEvents_table (s : State) (u : EventUnit) : (s.setEvents u).table = s.table := rfl
@[simp] theorem State.setEvents_retired (s : State) (u : EventUnit) : (s.setEvents u).retired = s.retired := rfl
@[simp] theorem State.setEvents_command (s : State) (u : EventUnit) : (s.setEvents u).command = s.command := rfl
@[simp] theorem State.setEvents_slots (s : State) (u : EventUnit) : (s.setEvents u).slots = s.slots := rfl
@[simp] theorem State.setEvents_posting (s : State) (u : EventUnit) : (s.setEvents u).posting = s.posting := rfl
@[simp] theorem State.setEvents_collectionLimit (s : State) (u : EventUnit) : (s.setEvents u).collectionLimit = s.collectionLimit := rfl
@[simp] theorem State.setEvents_sequencers (s : State) (u : EventUnit) : (s.setEvents u).sequencers = s.sequencers := rfl
@[simp] theorem State.setEvents_memory (s : State) (u : EventUnit) : (s.setEvents u).memory = s.memory := rfl
@[simp] theorem State.setEvents_channels (s : State) (u : EventUnit) : (s.setEvents u).channels = s.channels := rfl
@[simp] theorem State.setEvents_settings (s : State) (u : EventUnit) : (s.setEvents u).settings = s.settings := rfl
@[simp] theorem State.setEvents_events (s : State) (u : EventUnit) : (s.setEvents u).events = u := rfl
@[simp] theorem State.setEvents_answer (s : State) (u : EventUnit) : (s.setEvents u).answer = s.answer := rfl
@[simp] theorem State.setEvents_pending (s : State) (u : EventUnit) : (s.setEvents u).pending = s.pending := rfl
@[simp] theorem State.slot_setEvents (s : State) (u : EventUnit) (j : SlotId) : (s.setEvents u).slot j = s.slot j := rfl
@[simp] theorem State.postingUnit_setEvents (s : State) (u : EventUnit) (j : SlotId) : (s.setEvents u).postingUnit j = s.postingUnit j := rfl
@[simp] theorem State.sequencer_setEvents (s : State) (u : EventUnit) (j : SlotId) : (s.setEvents u).sequencer j = s.sequencer j := rfl
@[simp] theorem State.channel_setEvents (s : State) (u : EventUnit) (j : ChannelId) : (s.setEvents u).channel j = s.channel j := rfl
@[simp] theorem State.memoryRecord_setEvents (s : State) (u : EventUnit) (j : ChannelId) : (s.setEvents u).memoryRecord j = s.memoryRecord j := rfl
@[simp] theorem State.entry_setEvents (s : State) (u : EventUnit) (j : Handle) : (s.setEvents u).entry j = s.entry j := rfl

/-! ### answered -/

@[simp] theorem State.answered_port (s : State) (a : Answer) : (s.answered a).port = s.port := rfl
@[simp] theorem State.answered_table (s : State) (a : Answer) : (s.answered a).table = s.table := rfl
@[simp] theorem State.answered_retired (s : State) (a : Answer) : (s.answered a).retired = s.retired := rfl
@[simp] theorem State.answered_command (s : State) (a : Answer) : (s.answered a).command = s.command := rfl
@[simp] theorem State.answered_slots (s : State) (a : Answer) : (s.answered a).slots = s.slots := rfl
@[simp] theorem State.answered_posting (s : State) (a : Answer) : (s.answered a).posting = s.posting := rfl
@[simp] theorem State.answered_collectionLimit (s : State) (a : Answer) : (s.answered a).collectionLimit = s.collectionLimit := rfl
@[simp] theorem State.answered_sequencers (s : State) (a : Answer) : (s.answered a).sequencers = s.sequencers := rfl
@[simp] theorem State.answered_memory (s : State) (a : Answer) : (s.answered a).memory = s.memory := rfl
@[simp] theorem State.answered_channels (s : State) (a : Answer) : (s.answered a).channels = s.channels := rfl
@[simp] theorem State.answered_settings (s : State) (a : Answer) : (s.answered a).settings = s.settings := rfl
@[simp] theorem State.answered_events (s : State) (a : Answer) : (s.answered a).events = s.events := rfl
@[simp] theorem State.answered_answer (s : State) (a : Answer) : (s.answered a).answer = some a := rfl
@[simp] theorem State.answered_pending (s : State) (a : Answer) : (s.answered a).pending = s.pending := rfl
@[simp] theorem State.slot_answered (s : State) (a : Answer) (j : SlotId) : (s.answered a).slot j = s.slot j := rfl
@[simp] theorem State.postingUnit_answered (s : State) (a : Answer) (j : SlotId) : (s.answered a).postingUnit j = s.postingUnit j := rfl
@[simp] theorem State.sequencer_answered (s : State) (a : Answer) (j : SlotId) : (s.answered a).sequencer j = s.sequencer j := rfl
@[simp] theorem State.channel_answered (s : State) (a : Answer) (j : ChannelId) : (s.answered a).channel j = s.channel j := rfl
@[simp] theorem State.memoryRecord_answered (s : State) (a : Answer) (j : ChannelId) : (s.answered a).memoryRecord j = s.memoryRecord j := rfl
@[simp] theorem State.entry_answered (s : State) (a : Answer) (j : Handle) : (s.answered a).entry j = s.entry j := rfl

/-! ### raise -/

@[simp] theorem State.raise_port (s : State) (f : Flag) : (s.raise f).port = s.port := rfl
@[simp] theorem State.raise_table (s : State) (f : Flag) : (s.raise f).table = s.table := rfl
@[simp] theorem State.raise_retired (s : State) (f : Flag) : (s.raise f).retired = s.retired := rfl
@[simp] theorem State.raise_command (s : State) (f : Flag) : (s.raise f).command = s.command := rfl
@[simp] theorem State.raise_slots (s : State) (f : Flag) : (s.raise f).slots = s.slots := rfl
@[simp] theorem State.raise_posting (s : State) (f : Flag) : (s.raise f).posting = s.posting := rfl
@[simp] theorem State.raise_collectionLimit (s : State) (f : Flag) : (s.raise f).collectionLimit = s.collectionLimit := rfl
@[simp] theorem State.raise_sequencers (s : State) (f : Flag) : (s.raise f).sequencers = s.sequencers := rfl
@[simp] theorem State.raise_memory (s : State) (f : Flag) : (s.raise f).memory = s.memory := rfl
@[simp] theorem State.raise_channels (s : State) (f : Flag) : (s.raise f).channels = s.channels := rfl
@[simp] theorem State.raise_settings (s : State) (f : Flag) : (s.raise f).settings = s.settings := rfl
@[simp] theorem State.raise_events (s : State) (f : Flag) : (s.raise f).events = s.events.raise f := rfl
@[simp] theorem State.raise_answer (s : State) (f : Flag) : (s.raise f).answer = s.answer := rfl
@[simp] theorem State.raise_pending (s : State) (f : Flag) : (s.raise f).pending = s.pending := rfl
@[simp] theorem State.slot_raise (s : State) (f : Flag) (j : SlotId) : (s.raise f).slot j = s.slot j := rfl
@[simp] theorem State.postingUnit_raise (s : State) (f : Flag) (j : SlotId) : (s.raise f).postingUnit j = s.postingUnit j := rfl
@[simp] theorem State.sequencer_raise (s : State) (f : Flag) (j : SlotId) : (s.raise f).sequencer j = s.sequencer j := rfl
@[simp] theorem State.channel_raise (s : State) (f : Flag) (j : ChannelId) : (s.raise f).channel j = s.channel j := rfl
@[simp] theorem State.memoryRecord_raise (s : State) (f : Flag) (j : ChannelId) : (s.raise f).memoryRecord j = s.memoryRecord j := rfl
@[simp] theorem State.entry_raise (s : State) (f : Flag) (j : Handle) : (s.raise f).entry j = s.entry j := rfl

/-! ### settle -/

@[simp] theorem State.settle_port (s : State) : (s.settle).port = s.port := rfl
@[simp] theorem State.settle_table (s : State) : (s.settle).table = s.table := rfl
@[simp] theorem State.settle_retired (s : State) : (s.settle).retired = s.retired := rfl
@[simp] theorem State.settle_command (s : State) : (s.settle).command = s.command := rfl
@[simp] theorem State.settle_slots (s : State) : (s.settle).slots = s.slots := rfl
@[simp] theorem State.settle_posting (s : State) : (s.settle).posting = s.posting := rfl
@[simp] theorem State.settle_collectionLimit (s : State) : (s.settle).collectionLimit = s.collectionLimit := rfl
@[simp] theorem State.settle_sequencers (s : State) : (s.settle).sequencers = s.sequencers := rfl
@[simp] theorem State.settle_memory (s : State) : (s.settle).memory = s.memory := rfl
@[simp] theorem State.settle_channels (s : State) : (s.settle).channels = s.channels := rfl
@[simp] theorem State.settle_settings (s : State) : (s.settle).settings = s.settings := rfl
@[simp] theorem State.settle_events (s : State) : (s.settle).events = s.events.settle := rfl
@[simp] theorem State.settle_answer (s : State) : (s.settle).answer = s.answer := rfl
@[simp] theorem State.settle_pending (s : State) : (s.settle).pending = s.pending := rfl
@[simp] theorem State.slot_settle (s : State) (j : SlotId) : (s.settle).slot j = s.slot j := rfl
@[simp] theorem State.postingUnit_settle (s : State) (j : SlotId) : (s.settle).postingUnit j = s.postingUnit j := rfl
@[simp] theorem State.sequencer_settle (s : State) (j : SlotId) : (s.settle).sequencer j = s.sequencer j := rfl
@[simp] theorem State.channel_settle (s : State) (j : ChannelId) : (s.settle).channel j = s.channel j := rfl
@[simp] theorem State.memoryRecord_settle (s : State) (j : ChannelId) : (s.settle).memoryRecord j = s.memoryRecord j := rfl
@[simp] theorem State.entry_settle (s : State) (j : Handle) : (s.settle).entry j = s.entry j := rfl

/-! ### offer -/

@[simp] theorem State.offer_port (s : State) (o : FaultOffer) : (s.offer o).port = s.port := rfl
@[simp] theorem State.offer_table (s : State) (o : FaultOffer) : (s.offer o).table = s.table := rfl
@[simp] theorem State.offer_retired (s : State) (o : FaultOffer) : (s.offer o).retired = s.retired := rfl
@[simp] theorem State.offer_command (s : State) (o : FaultOffer) : (s.offer o).command = s.command := rfl
@[simp] theorem State.offer_slots (s : State) (o : FaultOffer) : (s.offer o).slots = s.slots := rfl
@[simp] theorem State.offer_posting (s : State) (o : FaultOffer) : (s.offer o).posting = s.posting := rfl
@[simp] theorem State.offer_collectionLimit (s : State) (o : FaultOffer) : (s.offer o).collectionLimit = s.collectionLimit := rfl
@[simp] theorem State.offer_sequencers (s : State) (o : FaultOffer) : (s.offer o).sequencers = s.sequencers := rfl
@[simp] theorem State.offer_memory (s : State) (o : FaultOffer) : (s.offer o).memory = s.memory := rfl
@[simp] theorem State.offer_channels (s : State) (o : FaultOffer) : (s.offer o).channels = s.channels := rfl
@[simp] theorem State.offer_settings (s : State) (o : FaultOffer) : (s.offer o).settings = s.settings := rfl
@[simp] theorem State.offer_events (s : State) (o : FaultOffer) : (s.offer o).events = s.events.offer o := rfl
@[simp] theorem State.offer_answer (s : State) (o : FaultOffer) : (s.offer o).answer = s.answer := rfl
@[simp] theorem State.offer_pending (s : State) (o : FaultOffer) : (s.offer o).pending = s.pending := rfl
@[simp] theorem State.slot_offer (s : State) (o : FaultOffer) (j : SlotId) : (s.offer o).slot j = s.slot j := rfl
@[simp] theorem State.postingUnit_offer (s : State) (o : FaultOffer) (j : SlotId) : (s.offer o).postingUnit j = s.postingUnit j := rfl
@[simp] theorem State.sequencer_offer (s : State) (o : FaultOffer) (j : SlotId) : (s.offer o).sequencer j = s.sequencer j := rfl
@[simp] theorem State.channel_offer (s : State) (o : FaultOffer) (j : ChannelId) : (s.offer o).channel j = s.channel j := rfl
@[simp] theorem State.memoryRecord_offer (s : State) (o : FaultOffer) (j : ChannelId) : (s.offer o).memoryRecord j = s.memoryRecord j := rfl
@[simp] theorem State.entry_offer (s : State) (o : FaultOffer) (j : Handle) : (s.offer o).entry j = s.entry j := rfl

/-! ### acceptThrough -/

@[simp] theorem State.acceptThrough_port (s : State) (h : Handle) : (s.acceptThrough h).port = s.port := rfl
@[simp] theorem State.acceptThrough_retired (s : State) (h : Handle) : (s.acceptThrough h).retired = s.retired := rfl
@[simp] theorem State.acceptThrough_command (s : State) (h : Handle) : (s.acceptThrough h).command = s.command := rfl
@[simp] theorem State.acceptThrough_slots (s : State) (h : Handle) : (s.acceptThrough h).slots = s.slots := rfl
@[simp] theorem State.acceptThrough_posting (s : State) (h : Handle) : (s.acceptThrough h).posting = s.posting := rfl
@[simp] theorem State.acceptThrough_collectionLimit (s : State) (h : Handle) : (s.acceptThrough h).collectionLimit = s.collectionLimit := rfl
@[simp] theorem State.acceptThrough_sequencers (s : State) (h : Handle) : (s.acceptThrough h).sequencers = s.sequencers := rfl
@[simp] theorem State.acceptThrough_memory (s : State) (h : Handle) : (s.acceptThrough h).memory = s.memory := rfl
@[simp] theorem State.acceptThrough_channels (s : State) (h : Handle) : (s.acceptThrough h).channels = s.channels := rfl
@[simp] theorem State.acceptThrough_settings (s : State) (h : Handle) : (s.acceptThrough h).settings = s.settings := rfl
@[simp] theorem State.acceptThrough_events (s : State) (h : Handle) : (s.acceptThrough h).events = s.events := rfl
@[simp] theorem State.acceptThrough_answer (s : State) (h : Handle) : (s.acceptThrough h).answer = s.answer := rfl
@[simp] theorem State.acceptThrough_pending (s : State) (h : Handle) : (s.acceptThrough h).pending = s.pending := rfl
@[simp] theorem State.slot_acceptThrough (s : State) (h : Handle) (j : SlotId) : (s.acceptThrough h).slot j = s.slot j := rfl
@[simp] theorem State.postingUnit_acceptThrough (s : State) (h : Handle) (j : SlotId) : (s.acceptThrough h).postingUnit j = s.postingUnit j := rfl
@[simp] theorem State.sequencer_acceptThrough (s : State) (h : Handle) (j : SlotId) : (s.acceptThrough h).sequencer j = s.sequencer j := rfl
@[simp] theorem State.channel_acceptThrough (s : State) (h : Handle) (j : ChannelId) : (s.acceptThrough h).channel j = s.channel j := rfl
@[simp] theorem State.memoryRecord_acceptThrough (s : State) (h : Handle) (j : ChannelId) : (s.acceptThrough h).memoryRecord j = s.memoryRecord j := rfl

/-! ### unbindWhere -/

@[simp] theorem State.unbindWhere_port (s : State) (p : Handle → Bool) : (s.unbindWhere p).port = s.port := rfl
@[simp] theorem State.unbindWhere_table (s : State) (p : Handle → Bool) : (s.unbindWhere p).table = s.table := rfl
@[simp] theorem State.unbindWhere_retired (s : State) (p : Handle → Bool) : (s.unbindWhere p).retired = s.retired := rfl
@[simp] theorem State.unbindWhere_command (s : State) (p : Handle → Bool) : (s.unbindWhere p).command = s.command := rfl
@[simp] theorem State.unbindWhere_slots (s : State) (p : Handle → Bool) : (s.unbindWhere p).slots = s.slots := rfl
@[simp] theorem State.unbindWhere_posting (s : State) (p : Handle → Bool) : (s.unbindWhere p).posting = s.posting := rfl
@[simp] theorem State.unbindWhere_collectionLimit (s : State) (p : Handle → Bool) : (s.unbindWhere p).collectionLimit = s.collectionLimit := rfl
@[simp] theorem State.unbindWhere_sequencers (s : State) (p : Handle → Bool) : (s.unbindWhere p).sequencers = s.sequencers := rfl
@[simp] theorem State.unbindWhere_memory (s : State) (p : Handle → Bool) : (s.unbindWhere p).memory = s.memory := rfl
@[simp] theorem State.unbindWhere_settings (s : State) (p : Handle → Bool) : (s.unbindWhere p).settings = s.settings := rfl
@[simp] theorem State.unbindWhere_events (s : State) (p : Handle → Bool) : (s.unbindWhere p).events = s.events := rfl
@[simp] theorem State.unbindWhere_answer (s : State) (p : Handle → Bool) : (s.unbindWhere p).answer = s.answer := rfl
@[simp] theorem State.unbindWhere_pending (s : State) (p : Handle → Bool) : (s.unbindWhere p).pending = s.pending := rfl
@[simp] theorem State.slot_unbindWhere (s : State) (p : Handle → Bool) (j : SlotId) : (s.unbindWhere p).slot j = s.slot j := rfl
@[simp] theorem State.postingUnit_unbindWhere (s : State) (p : Handle → Bool) (j : SlotId) : (s.unbindWhere p).postingUnit j = s.postingUnit j := rfl
@[simp] theorem State.sequencer_unbindWhere (s : State) (p : Handle → Bool) (j : SlotId) : (s.unbindWhere p).sequencer j = s.sequencer j := rfl
@[simp] theorem State.memoryRecord_unbindWhere (s : State) (p : Handle → Bool) (j : ChannelId) : (s.unbindWhere p).memoryRecord j = s.memoryRecord j := rfl
@[simp] theorem State.entry_unbindWhere (s : State) (p : Handle → Bool) (j : Handle) : (s.unbindWhere p).entry j = s.entry j := rfl

/-! ### Reading what was written -/

@[simp] theorem State.slot_setSlot (s : State) (i j : SlotId) (x : SlotController) :
    (s.setSlot i x).slot j = if j = i then x else s.slot j := Quad.get_set _ _ _ _

@[simp] theorem State.postingUnit_setPosting (s : State) (i j : SlotId) (x : PostingUnit) :
    (s.setPosting i x).postingUnit j = if j = i then x else s.postingUnit j := Quad.get_set _ _ _ _

@[simp] theorem State.sequencer_setSequencer (s : State) (i j : SlotId) (x : Sequencer) :
    (s.setSequencer i x).sequencer j = if j = i then x else s.sequencer j := Quad.get_set _ _ _ _

@[simp] theorem State.channel_setChannel (s : State) (c j : ChannelId) (x : Channel) :
    (s.setChannel c x).channel j = if j = c then x else s.channel j := Quad.get_set _ _ _ _

@[simp] theorem State.memoryRecord_setMemory (s : State) (c j : ChannelId) (x : Option MemoryAccess) :
    (s.setMemory c x).memoryRecord j = if j = c then x else s.memoryRecord j := Quad.get_set _ _ _ _

@[simp] theorem State.entry_setEntry (s : State) (h k : Handle) (e : Entry) :
    (s.setEntry h e).entry k = if k = h then e else s.entry k := by
  unfold State.setEntry State.entry
  simp only [Vector.getElem_set]
  by_cases hk : k = h
  · simp [hk]
  · have hv : ¬ h.val = k.val := fun heq => hk (Fin.ext heq.symm)
    simp [hk, hv]

@[simp] theorem State.channel_unbindWhere (s : State) (p : Handle → Bool) (c : ChannelId) :
    (s.unbindWhere p).channel c =
      match (s.channel c).bound with
      | some h => if p h then { s.channel c with bound := none } else s.channel c
      | none => s.channel c := Quad.get_map _ _ _

/-- The table with every entry mapped, read at one handle. -/
@[simp] theorem Table.getElem_mapEntries (f : Entry → Entry) (t : Table) (n : Nat) (h : n < 32) :
    (Table.mapEntries f t)[n]'h = f (t[n]'h) := by
  simp [Table.mapEntries, Vector.getElem_mk]

/-! ### Writing back and writing twice -/

@[simp] theorem State.setSlot_self (s : State) (i : SlotId) : s.setSlot i (s.slot i) = s := by
  simp [State.setSlot, State.slot]

@[simp] theorem State.setSlot_setSlot (s : State) (i : SlotId) (x y : SlotController) :
    (s.setSlot i x).setSlot i y = s.setSlot i y := by
  simp [State.setSlot]

@[simp] theorem State.setPosting_self (s : State) (i : SlotId) : s.setPosting i (s.postingUnit i) = s := by
  simp [State.setPosting, State.postingUnit]

@[simp] theorem State.setPosting_setPosting (s : State) (i : SlotId) (x y : PostingUnit) :
    (s.setPosting i x).setPosting i y = s.setPosting i y := by
  simp [State.setPosting]

@[simp] theorem State.setSequencer_self (s : State) (i : SlotId) : s.setSequencer i (s.sequencer i) = s := by
  simp [State.setSequencer, State.sequencer]

@[simp] theorem State.setSequencer_setSequencer (s : State) (i : SlotId) (x y : Sequencer) :
    (s.setSequencer i x).setSequencer i y = s.setSequencer i y := by
  simp [State.setSequencer]

@[simp] theorem State.setChannel_self (s : State) (i : ChannelId) : s.setChannel i (s.channel i) = s := by
  simp [State.setChannel, State.channel]

@[simp] theorem State.setChannel_setChannel (s : State) (i : ChannelId) (x y : Channel) :
    (s.setChannel i x).setChannel i y = s.setChannel i y := by
  simp [State.setChannel]

@[simp] theorem State.setMemory_self (s : State) (i : ChannelId) : s.setMemory i (s.memoryRecord i) = s := by
  simp [State.setMemory, State.memoryRecord]

@[simp] theorem State.setMemory_setMemory (s : State) (i : ChannelId) (x y : Option MemoryAccess) :
    (s.setMemory i x).setMemory i y = s.setMemory i y := by
  simp [State.setMemory]

end Sys2Proof.Machine
end

