-- ==== Sys2Proof/Laws/Events.lean ====
section
/-! SUPPORT. What raising, presenting, clearing and settling do to the flags and to the interrupt output, said once. -/

namespace Sys2Proof.Machine

/-! ## Flags -/

@[simp] theorem EventWords.get_set_self (w : EventWords) (g : EventGroup) (v : Word) : (w.set g v).get g = v := by
  cases g <;> simp [EventWords.get, EventWords.set]

/-- A word other than the one written stays. -/
theorem EventWords.get_set_other (w : EventWords) {g k : EventGroup} (v : Word) (h : k ≠ g) :
    (w.set g v).get k = w.get k := by
  cases g <;> cases k <;> simp_all [EventWords.get, EventWords.set]

/-- A raise of a flag that its word has leaves it set (R159). -/
theorem EventUnit.isSet_raise_self (u : EventUnit) (f : Flag) (h : f.position < 32)
    (k : (flagPositions f.group).getLsbD f.position = true) : (u.raise f).isSet f = true := by
  unfold EventUnit.raise EventUnit.raiseMarks EventUnit.isSet
  rw [EventWords.get_set_self]
  simp only [BitVec.getLsbD_or, BitVec.getLsbD_and, k, positionMark, BitVec.getLsbD_twoPow, h]
  simp

/-- A raise clears no flag (R159). -/
theorem EventUnit.isSet_raise_mono (u : EventUnit) (f g : Flag) (h : u.isSet f = true) :
    (u.raise g).isSet f = true := by
  unfold EventUnit.isSet at h
  unfold EventUnit.raise EventUnit.raiseMarks EventUnit.isSet
  by_cases e : f.group = g.group
  · rw [e, EventWords.get_set_self, BitVec.getLsbD_or, ← e, h]; rfl
  · rw [EventWords.get_set_other _ _ e]; exact h

@[simp] theorem EventUnit.settle_flags (u : EventUnit) : u.settle.flags = u.flags := by
  unfold EventUnit.settle; split <;> (try split) <;> rfl

@[simp] theorem EventUnit.settle_enables (u : EventUnit) : u.settle.enables = u.enables := by
  unfold EventUnit.settle; split <;> (try split) <;> rfl

@[simp] theorem EventUnit.settle_alertSources (u : EventUnit) : u.settle.alertSources = u.alertSources := by
  unfold EventUnit.settle; split <;> (try split) <;> rfl

@[simp] theorem EventUnit.settle_fault (u : EventUnit) : u.settle.fault = u.fault := by
  unfold EventUnit.settle; split <;> (try split) <;> rfl

@[simp] theorem EventUnit.settle_interruptMode (u : EventUnit) : u.settle.interruptMode = u.interruptMode := by
  unfold EventUnit.settle; split <;> (try split) <;> simp_all

@[simp] theorem EventUnit.isSet_settle (u : EventUnit) (f : Flag) : u.settle.isSet f = u.isSet f := by
  unfold EventUnit.isSet; rw [EventUnit.settle_flags]

/-- Presenting an alert level clears no flag (R160). -/
theorem EventUnit.isSet_presentAlert_mono (u : EventUnit) (i : SlotId) (b : Bool) (f : Flag) (h : u.isSet f = true) :
    (u.presentAlert i b).isSet f = true := by
  unfold EventUnit.presentAlert
  dsimp only
  split
  · exact EventUnit.isSet_raise_mono _ _ _ h
  · exact h

/-- The level presented is the source's (R160). -/
@[simp] theorem EventUnit.presentAlert_source (u : EventUnit) (i : SlotId) (b : Bool) :
    (u.presentAlert i b).alertSources.get i = b := by
  unfold EventUnit.presentAlert
  dsimp only
  split
  · change (u.alertSources.set i b).get i = b; simp
  · simp

/-! ## The output -/

/-- A word of flags and a word of enables share a position. -/
theorem sharesPosition_iff (a b : Word) :
    ((a &&& b) != 0) = true ↔ ∃ p, a.getLsbD p = true ∧ b.getLsbD p = true := by
  rw [bne_iff_ne, ne_eq]
  constructor
  · intro h
    by_contra q
    apply h
    apply BitVec.eq_of_getLsbD_eq
    intro i hi
    simp only [BitVec.getLsbD_and]
    by_contra z
    exact q ⟨i, by simpa using z⟩
  · rintro ⟨p, x, y⟩ h
    have hp : (a &&& b).getLsbD p = true := by simp only [BitVec.getLsbD_and, x, y]; rfl
    rw [h] at hp
    simp at hp

/-- Some flag and its enable are both set (R167). -/
theorem EventUnit.anyEnabled_iff (u : EventUnit) :
    u.anyEnabled = true ↔ ∃ g p, (u.flags.get g).getLsbD p = true ∧ (u.enables.get g).getLsbD p = true := by
  unfold EventUnit.anyEnabled
  simp only [Bool.or_eq_true, sharesPosition_iff]
  constructor
  · rintro ((((h | h) | h) | h) | h)
    · obtain ⟨p, h⟩ := h; exact ⟨.slot 0, p, h⟩
    · obtain ⟨p, h⟩ := h; exact ⟨.slot 1, p, h⟩
    · obtain ⟨p, h⟩ := h; exact ⟨.slot 2, p, h⟩
    · obtain ⟨p, h⟩ := h; exact ⟨.slot 3, p, h⟩
    · obtain ⟨p, h⟩ := h; exact ⟨.system, p, h⟩
  · rintro ⟨g, p, h⟩
    cases g with
    | system => exact .inr ⟨p, h⟩
    | slot i =>
      have hi : i = 0 ∨ i = 1 ∨ i = 2 ∨ i = 3 := by clear h; revert i; decide
      rcases hi with rfl | rfl | rfl | rfl
      · exact .inl (.inl (.inl (.inl ⟨p, h⟩)))
      · exact .inl (.inl (.inl (.inr ⟨p, h⟩)))
      · exact .inl (.inl (.inr ⟨p, h⟩))
      · exact .inl (.inr ⟨p, h⟩)

/-- What the end of an event needs to leave the output lawful: in LEVEL mode nothing owed and the phase IDLE, in PULSE
mode at most 255 owed. Raises, clears and enable writes keep it. -/
abbrev EventUnit.Settleable (u : EventUnit) : Prop :=
  (u.interruptMode = .level → u.pulsesOwed = 0 ∧ u.pulsePhase = .idle) ∧ u.pulsesOwed ≤ Config.pulsesMax

/-- The end of an event makes the output lawful (R167, R168). -/
theorem EventUnit.outputLaw_settle (u : EventUnit) (h : u.Settleable) : u.settle.OutputLaw := by
  rcases u with ⟨fl, en, cm, im, out, owed, ph, al, fa⟩
  obtain ⟨h1, h2⟩ := h
  cases im with
  | level =>
    obtain ⟨rfl, rfl⟩ := h1 rfl
    exact ⟨fun _ => ⟨rfl, rfl, rfl⟩, fun q => by cases q⟩
  | pulse =>
    refine ⟨fun q => ?_, fun _ => ?_⟩
    · rw [EventUnit.settle_interruptMode] at q; cases q
    cases ph with
    | idle =>
      unfold EventUnit.settle
      by_cases q : owed = 0
      · subst q; exact ⟨rfl, fun _ => rfl, Nat.zero_le _⟩
      · simp only [if_neg q]
        exact ⟨rfl, fun z => (by cases z), le_trans (Nat.sub_le _ _) h2⟩
    | inPulse n => exact ⟨rfl, fun z => (by cases z), h2⟩
    | inGap n => exact ⟨rfl, fun z => (by cases z), h2⟩

/-- A lawful output can be settled again. -/
theorem EventUnit.settleable_of_outputLaw (u : EventUnit) (h : u.OutputLaw) : u.Settleable := by
  refine ⟨fun q => (h.1 q).2, ?_⟩
  cases hm : u.interruptMode with
  | level => rw [(h.1 hm).2.1]; exact Nat.zero_le _
  | pulse => exact (h.2 hm).2.2

/-- Raising marks keeps the unit ready to settle. -/
theorem EventUnit.settleable_raiseMarks (u : EventUnit) (g : EventGroup) (m : Word) (h : u.Settleable) :
    (u.raiseMarks g m).Settleable := by
  unfold EventUnit.raiseMarks
  constructor
  · intro q
    change u.interruptMode = .level at q
    simp only [q]
    exact h.1 q
  · dsimp only
    split
    · exact h.2
    · unfold owe
      split
      · exact h.2
      · exact Nat.min_le_left _ _

/-- Raising a flag keeps the unit ready to settle. -/
theorem EventUnit.settleable_raise (u : EventUnit) (f : Flag) (h : u.Settleable) : (u.raise f).Settleable :=
  EventUnit.settleable_raiseMarks u f.group _ h

/-- Presenting an alert level keeps the unit ready to settle. -/
theorem EventUnit.settleable_presentAlert (u : EventUnit) (i : SlotId) (b : Bool) (h : u.Settleable) :
    (u.presentAlert i b).Settleable := by
  unfold EventUnit.presentAlert
  dsimp only
  split
  · exact EventUnit.settleable_raise _ _ h
  · exact h

/-- An offer to the fault record keeps the unit ready to settle. -/
theorem EventUnit.settleable_offer (u : EventUnit) (o : FaultOffer) (h : u.Settleable) : (u.offer o).Settleable := by
  unfold EventUnit.offer
  split
  · exact h
  · exact EventUnit.settleable_raise _ _ h

/-! ## The flags that one event raises (R159, R168) -/

/-- A flag that its word has (10.7). -/
abbrev Flag.Named (f : Flag) : Prop := f.position < 32 ∧ (flagPositions f.group).getLsbD f.position = true

/-- A count over a range of positions that looks at one of them alone. -/
theorem countP_at (n q : Nat) (h : q < n) (b : Bool) :
    (List.range n).countP (fun p => decide (p = q) && b) = if b then 1 else 0 := by
  cases b with
  | false => simp
  | true =>
    have e : (fun p => decide (p = q) && true) = (fun p => p == q) := by funext p; simp; rfl
    rw [e]
    change (List.range n).count q = 1
    exact List.count_eq_one_of_mem List.nodup_range (List.mem_range.2 h)

/-- The counts of two properties that exclude each other add up. -/
theorem countP_or (L : List Nat) (P Q : Nat → Bool) (d : ∀ p, ¬(P p = true ∧ Q p = true)) :
    L.countP P + L.countP Q = L.countP (fun p => P p || Q p) := by
  induction L with
  | nil => rfl
  | cons x xs ih =>
    rw [List.countP_cons, List.countP_cons, List.countP_cons, ← ih]
    have := d x
    cases hp : P x <;> cases hq : Q x <;> simp_all <;> omega

/-- A raise in full: the bit of the flag is set, and in PULSE mode a 0-to-1 change of an enabled flag owes a pulse. -/
theorem EventUnit.raise_eq (u : EventUnit) (f : Flag) (h : f.Named) :
    u.raise f =
      { u with
        flags := u.flags.set f.group (u.flags.get f.group ||| BitVec.twoPow 32 f.position)
        pulsesOwed :=
          if u.interruptMode = .pulse ∧ u.isSet f = false ∧ u.isEnabled f = true then min 255 (u.pulsesOwed + 1)
          else u.pulsesOwed } := by
  have marks : positionMark f.position &&& flagPositions f.group = BitVec.twoPow 32 f.position := by
    apply BitVec.eq_of_getLsbD_eq
    intro p hp
    rw [BitVec.getLsbD_and, positionMark, BitVec.getLsbD_twoPow]
    by_cases e : f.position = p
    · rw [← e, h.2]; simp
    · simp [e]
  have count : ones ((u.flags.get f.group ||| BitVec.twoPow 32 f.position) &&& ~~~u.flags.get f.group &&&
      u.enables.get f.group) = if !u.isSet f && u.isEnabled f then 1 else 0 := by
    rw [← countP_at 32 f.position h.1]
    unfold ones
    apply List.countP_congr
    intro p hp
    have hp : p < 32 := List.mem_range.1 hp
    simp only [BitVec.getLsbD_and, BitVec.getLsbD_or, BitVec.getLsbD_not, BitVec.getLsbD_twoPow, EventUnit.isSet,
      EventUnit.isEnabled, hp, decide_true, Bool.true_and]
    by_cases e : p = f.position
    · subst e; simp [hp]
    · simp [e, Ne.symm e]
  unfold EventUnit.raise EventUnit.raiseMarks
  dsimp only
  rw [marks, count]
  cases hm : u.interruptMode <;> cases hs : u.isSet f <;> cases he : u.isEnabled f <;> simp [owe, Config.pulsesMax]

/-- Nothing raised leaves the unit. -/
theorem EventUnit.Raised.refl (u : EventUnit) (new : Flag → Prop) (h : ∀ f, ¬new f) : u.Raised u new := by
  have zero : u.newlySet u = 0 := by
    unfold EventUnit.newlySet
    rw [List.sum_eq_zero]
    simp only [List.mem_map]
    rintro _ ⟨g, -, rfl⟩
    rw [List.countP_eq_zero]
    intro p _
    cases (u.flags.get g).getLsbD p <;> simp
  exact ⟨fun g p => by simp [h], by simp [zero], rfl⟩

/-- The changes that a further raise adds. -/
theorem EventUnit.newlySet_raise (u m : EventUnit) (f : Flag) (h : f.Named) (sub : u.isSet f = true → m.isSet f = true) :
    u.newlySet (m.raise f) = u.newlySet m + if m.isSet f = false ∧ u.isEnabled f = true then 1 else 0 := by
  have other : ∀ g, g ≠ f.group → (m.raise f).flags.get g = m.flags.get g := by
    intro g hg; rw [EventUnit.raise_eq m f h]; exact EventWords.get_set_other _ _ hg
  have self : (m.raise f).flags.get f.group = m.flags.get f.group ||| BitVec.twoPow 32 f.position := by
    rw [EventUnit.raise_eq m f h]; exact EventWords.get_set_self _ _ _
  have step : (List.range 32).countP (fun p => ((m.raise f).flags.get f.group).getLsbD p &&
        !(u.flags.get f.group).getLsbD p && (u.enables.get f.group).getLsbD p) =
      (List.range 32).countP (fun p => (m.flags.get f.group).getLsbD p && !(u.flags.get f.group).getLsbD p &&
        (u.enables.get f.group).getLsbD p) + if m.isSet f = false ∧ u.isEnabled f = true then 1 else 0 := by
    have one := countP_at 32 f.position h.1 (!m.isSet f && u.isEnabled f)
    have e : (if (!m.isSet f && u.isEnabled f) = true then 1 else 0) =
        (if m.isSet f = false ∧ u.isEnabled f = true then 1 else 0) := by simp
    rw [e] at one
    rw [← one, self]
    have disjoint : ∀ p, ¬((((m.flags.get f.group).getLsbD p && !(u.flags.get f.group).getLsbD p &&
        (u.enables.get f.group).getLsbD p) = true) ∧ (decide (p = f.position) && (!m.isSet f && u.isEnabled f)) = true) := by
      intro p; unfold EventUnit.isSet
      rintro ⟨a, b⟩
      simp only [Bool.and_eq_true, decide_eq_true_eq, Bool.not_eq_true'] at a b
      rw [b.1, b.2.1] at a
      exact absurd a.1.1 (by simp)
    rw [countP_or _ _ _ disjoint]
    apply List.countP_congr
    intro p hp
    have hp : p < 32 := List.mem_range.1 hp
    rw [BitVec.getLsbD_or, BitVec.getLsbD_twoPow]
    unfold EventUnit.isSet EventUnit.isEnabled at *
    by_cases e : p = f.position
    · subst e
      cases hu : (u.flags.get f.group).getLsbD f.position
      · cases hm : (m.flags.get f.group).getLsbD f.position <;> simp [hp]
      · have := sub hu; simp [this]
    · simp [e, Ne.symm e]
  unfold EventUnit.newlySet eventGroups
  simp only [List.map_cons, List.map_nil, List.sum_cons, List.sum_nil]
  cases hg : f.group with
  | system =>
    rw [hg] at step other
    rw [step, other (.slot 0) (by simp), other (.slot 1) (by simp), other (.slot 2) (by simp), other (.slot 3) (by simp)]
    omega
  | slot i =>
    rw [hg] at step other
    have hi : i = 0 ∨ i = 1 ∨ i = 2 ∨ i = 3 := by clear * -; revert i; decide
    rcases hi with rfl | rfl | rfl | rfl
    · rw [step, other .system (by simp), other (.slot 1) (by simp), other (.slot 2) (by simp), other (.slot 3) (by simp)]
      omega
    · rw [step, other .system (by simp), other (.slot 0) (by simp), other (.slot 2) (by simp), other (.slot 3) (by simp)]
      omega
    · rw [step, other .system (by simp), other (.slot 0) (by simp), other (.slot 1) (by simp), other (.slot 3) (by simp)]
      omega
    · rw [step, other .system (by simp), other (.slot 0) (by simp), other (.slot 1) (by simp), other (.slot 2) (by simp)]
      omega

/-- A further raise in the same event (R159, R168). -/
theorem EventUnit.Raised.raise {u m : EventUnit} {new new' : Flag → Prop} (r : u.Raised m new) (f : Flag) (h : f.Named)
    (k : ∀ g, new' g ↔ new g ∨ g = f) : u.Raised (m.raise f) new' := by
  have mode : m.interruptMode = u.interruptMode := by rw [r.rest]
  have enables : m.enables = u.enables := by rw [r.rest]
  refine ⟨?_, ?_, ?_⟩
  · intro g p
    rw [k, ← or_assoc, ← r.flags, EventUnit.raise_eq m f h]
    by_cases e : g = f.group
    · subst e
      dsimp only
      rw [EventWords.get_set_self, BitVec.getLsbD_or, BitVec.getLsbD_twoPow, Bool.or_eq_true]
      apply or_congr Iff.rfl
      rcases f with ⟨g, q⟩
      have hq : q < 32 := h.1
      simp [hq, eq_comm]
    · dsimp only
      rw [EventWords.get_set_other _ _ e]
      simp only [iff_self_or]
      rintro rfl
      exact absurd rfl e
  · have sub : u.isSet f = true → m.isSet f = true := fun z => (r.flags f.group f.position).2 (.inl z)
    have on : m.isEnabled f = u.isEnabled f := by unfold EventUnit.isEnabled; rw [enables]
    rw [EventUnit.newlySet_raise u m f h sub, EventUnit.raise_eq m f h]
    dsimp only
    rw [mode, on, r.owed]
    cases u.interruptMode with
    | level => simp
    | pulse =>
      by_cases c : m.isSet f = false ∧ u.isEnabled f = true
      · rw [if_pos ⟨rfl, c⟩, if_pos c]
        by_cases z : u.newlySet m = 0
        · simp [z]
        · simp [z]; omega
      · rw [if_neg (fun q => c q.2), if_neg c]; rfl
  · conv_lhs => rw [EventUnit.raise_eq m f h]
    rw [EventUnit.raise_eq m f h, r.rest]

/-- The flags that one event raises, named in another way. -/
theorem EventUnit.Raised.congr {u m : EventUnit} {new new' : Flag → Prop} (r : u.Raised m new)
    (k : ∀ f, new' f ↔ new f) : u.Raised m new' :=
  ⟨fun g p => by rw [k]; exact r.flags g p, r.owed, r.rest⟩

/-- An ALERT source set to one level before the event and after it (R160). -/
theorem EventUnit.Raised.source {u m : EventUnit} {new : Flag → Prop} (r : u.Raised m new) (i : SlotId) (b : Bool) :
    EventUnit.Raised { u with alertSources := u.alertSources.set i b }
      { m with alertSources := m.alertSources.set i b } new := by
  refine ⟨r.flags, ?_, ?_⟩
  · exact r.owed
  · conv_lhs => rw [r.rest]

/-- The presentation of an ALERT source after other raises: the flag is set when the source becomes asserted (R160). -/
theorem EventUnit.Raised.presentAlert {u m : EventUnit} {new : Flag → Prop} (r : u.Raised m new) (i : SlotId) (b : Bool) :
    EventUnit.Raised { u with alertSources := u.alertSources.set i b } (m.presentAlert i b)
      (fun f => new f ∨ (b = true ∧ u.alertSources.get i = false ∧ f = Flag.alert i)) := by
  have e : m.alertSources = u.alertSources := by rw [r.rest]
  have named : (Flag.alert i).Named := by revert i; decide
  unfold EventUnit.presentAlert
  dsimp only
  have r' := r.source i b
  split
  · rename_i h
    have h : b = true ∧ m.alertSources.get i = false := by simpa using h
    exact r'.raise _ named (fun f => by simp [h, ← e])
  · rename_i h
    have h : ¬(b = true ∧ m.alertSources.get i = false) := by simpa using h
    refine r'.congr (fun f => ?_)
    rw [← e]
    constructor
    · rintro (a | ⟨a, c, _⟩)
      · exact a
      · exact absurd ⟨a, c⟩ h
    · exact .inl

/-- A raise under a condition (R159). -/
theorem EventUnit.Raised.raiseIf {u m : EventUnit} {new new' : Flag → Prop} (r : u.Raised m new) (p : Prop)
    [Decidable p] (f : Flag) (h : f.Named) (k : ∀ g, new' g ↔ new g ∨ (p ∧ g = f)) :
    u.Raised (if p then m.raise f else m) new' := by
  split
  · rename_i q; exact r.raise f h (fun g => by rw [k]; simp [q])
  · rename_i q; exact r.congr (fun g => by rw [k]; simp [q])

end Sys2Proof.Machine
end

