-- ==== Sys2Proof/Laws/Frames.lean ====
section
/-! SUPPORT. The frame of every shared operation, said once: which fields of State it may change. A proof obtains the frame and
rewrites, in place of unfolding the operation. -/

namespace Sys2Proof.Machine

/-! ## The sequencer's choice -/

/-- Beginning an access changes the sequencers alone. -/
theorem State.beginAccess_frame (s : State) (i : SlotId) (src : AccessSource) (d : Direction) (t : Target) (w : Word)
    (o : Preference) (l : Lines) : ∃ q, s.beginAccess i src d t w o l = { s with sequencers := q } := ⟨_, rfl⟩

/-- Beginning system work changes the posting units and the sequencers. -/
theorem State.beginSystem_frame (s : State) (i : SlotId) (w : SystemWork) (l : Lines) :
    ∃ p q, s.beginSystem i w l = { s with posting := p, sequencers := q } := by
  cases w <;> exact ⟨_, _, rfl⟩

/-- Beginning a channel's module half changes the channels and the sequencers. -/
theorem State.beginHalf_frame (s : State) (i : SlotId) (c : ChannelId) (l : Lines) :
    ∃ ch q, s.beginHalf i c l = { s with channels := ch, sequencers := q } := by
  unfold State.beginHalf
  dsimp only
  split
  · exact ⟨s.channels, s.sequencers, rfl⟩
  · exact ⟨_, _, rfl⟩

/-- A choice changes posting units, sequencers and channels. -/
theorem State.choose_frame (s : State) (i : SlotId) (l : Lines) :
    ∃ p q ch, s.choose i l = { s with posting := p, sequencers := q, channels := ch } := by
  unfold State.choose
  split
  · exact ⟨_, _, _, rfl⟩
  · split
    · exact ⟨_, _, _, rfl⟩
    · obtain ⟨p, q, h⟩ := s.beginSystem_frame i _ l
      exact ⟨p, q, s.channels, h⟩
    · obtain ⟨ch, q, h⟩ := s.beginHalf_frame i _ l
      exact ⟨s.posting, q, ch, h⟩
    · split
      · obtain ⟨p, q, h⟩ := s.beginSystem_frame i _ l
        exact ⟨p, q, s.channels, h⟩
      · obtain ⟨ch, q, h⟩ := s.beginHalf_frame i _ l
        exact ⟨s.posting, q, ch, h⟩

/-- A choice for a channel changes posting units, sequencers and channels. -/
theorem State.chooseFor_frame (s : State) (c : ChannelId) (l : Lines) :
    ∃ p q ch, s.chooseFor c l = { s with posting := p, sequencers := q, channels := ch } := by
  unfold State.chooseFor
  split
  · exact ⟨_, _, _, rfl⟩
  · exact s.choose_frame _ l

/-- With an access in progress a choice does nothing (R126). -/
theorem State.choose_busy (s : State) (i : SlotId) (l : Lines) (a : BusAccess) (h : (s.sequencer i).access = some a) :
    s.choose i l = s := by
  unfold State.choose; rw [h]

/-- With nothing waiting a choice does nothing (R126). -/
theorem State.choose_idle (s : State) (i : SlotId) (l : Lines) (h : (s.postingUnit i).offered = none)
    (k : s.dueChannel i = none) : s.choose i l = s := by
  unfold State.choose
  split
  · rfl
  · rw [h, k]

/-! ## Channels -/

/-- An abort changes channels, memory records and events. -/
theorem State.abortChannel_frame (s : State) (c : ChannelId) (k : AbortCause) :
    ∃ ch m u, s.abortChannel c k = { s with channels := ch, memory := m, events := u } := ⟨_, _, _, rfl⟩

/-- An issue of a memory access changes channels, memory records and events. -/
theorem State.issueMemory_frame (s : State) (c : ChannelId) (a : MemoryAccess) :
    ∃ ch m u, s.issueMemory c a = { s with channels := ch, memory := m, events := u } := by
  unfold State.issueMemory
  split
  · exact ⟨_, _, _, rfl⟩
  · exact ⟨_, _, _, rfl⟩

/-- A unit start changes channels, memory records and events. -/
theorem State.startUnit_frame (s : State) (c : ChannelId) :
    ∃ ch m u, s.startUnit c = { s with channels := ch, memory := m, events := u } := by
  unfold State.startUnit
  dsimp only
  split
  · exact ⟨_, _, _, rfl⟩
  · split
    · exact ⟨_, _, _, rfl⟩
    · obtain ⟨ch, m, u, h⟩ := State.issueMemory_frame (s.setChannel c _) c _
      exact ⟨ch, m, u, h⟩

/-- Starting a unit on demand changes channels, memory records and events. -/
theorem State.startIfDemanded_frame (s : State) (c : ChannelId) (l : Lines) :
    ∃ ch m u, s.startIfDemanded c l = { s with channels := ch, memory := m, events := u } := by
  unfold State.startIfDemanded
  split
  · exact s.startUnit_frame c
  · exact ⟨_, _, _, rfl⟩

/-- Starting the next unit changes channels, memory records and events. -/
theorem State.startIfDue_frame (s : State) (c : ChannelId) (l : Lines) :
    ∃ ch m u, s.startIfDue c l = { s with channels := ch, memory := m, events := u } := by
  unfold State.startIfDue
  dsimp only
  split
  · split
    · split
      · exact s.startUnit_frame c
      · exact ⟨_, _, _, rfl⟩
    · split
      · obtain ⟨ch, m, u, h⟩ := State.startUnit_frame (s.setChannel c _) c
        exact ⟨ch, m, u, h⟩
      · exact ⟨_, _, _, rfl⟩
    · exact s.startIfDemanded_frame c l
  · exact ⟨_, _, _, rfl⟩

/-- The end of a unit changes channels, memory records and events. -/
theorem State.endUnit_frame (s : State) (c : ChannelId) (l : Lines) :
    ∃ ch m u, s.endUnit c l = { s with channels := ch, memory := m, events := u } := by
  unfold State.endUnit
  dsimp only
  split
  · obtain ⟨ch, m, u, h⟩ := State.startIfDue_frame ((s.setChannel c _).raise (Flag.channelDone c)) c l
    exact ⟨ch, m, u, h⟩
  · obtain ⟨ch, m, u, h⟩ := State.startIfDue_frame (s.setChannel c _) c l
    exact ⟨ch, m, u, h⟩

/-! ## Entries and their work -/

/-- Freeing an entry changes the table, the channels, the retired-handle set and events. -/
theorem State.freeEntry_frame (s : State) (h : Handle) :
    ∃ t ch r u, s.freeEntry h = { s with table := t, channels := ch, retired := r, events := u } := by
  unfold State.freeEntry
  dsimp only
  split
  · exact ⟨_, _, _, _, rfl⟩
  · exact ⟨_, _, _, _, rfl⟩

/-- The finish of an accepted access changes the table, the channels, the retired-handle set and events. -/
theorem State.finishOne_frame (s : State) (h : Handle) :
    ∃ t ch r u, s.finishOne h = { s with table := t, channels := ch, retired := r, events := u } := by
  unfold State.finishOne
  split
  · exact s.freeEntry_frame h
  · exact ⟨_, _, _, _, rfl⟩

/-- The completion of a write at the module: what it may change. -/
theorem State.completeWrite_frame (s : State) (i : SlotId) :
    ∃ p t ch r u, s.completeWrite i = { s with posting := p, table := t, channels := ch, retired := r, events := u } := by
  unfold State.completeWrite
  split
  · exact ⟨_, _, _, _, _, rfl⟩
  · obtain ⟨t, ch, r, u, h⟩ := State.finishOne_frame (s.setPosting i _) _
    exact ⟨_, t, ch, r, u, h⟩

/-- The discard of a write at a timeout: what it may change. -/
theorem State.discardWrite_frame (s : State) (i : SlotId) :
    ∃ p t ch r u, s.discardWrite i = { s with posting := p, table := t, channels := ch, retired := r, events := u } := by
  unfold State.discardWrite
  split
  · exact ⟨_, _, _, _, _, rfl⟩
  · obtain ⟨t, ch, r, u, h⟩ := State.finishOne_frame ((s.setPosting i _).raise (Flag.dataLost i)) _
    exact ⟨_, t, ch, r, u, h⟩

/-- The finish of a held read at the module changes the posting units alone. -/
theorem State.finishRead_frame (s : State) (i : SlotId) (o : HeldState) :
    ∃ p, s.finishRead i o = { s with posting := p } := by
  unfold State.finishRead
  split
  · exact ⟨_, rfl⟩
  · exact ⟨_, rfl⟩

/-- The emptying of a holder: what it may change. -/
theorem State.emptyHolder_frame (s : State) (i : SlotId) (r : HeldRead) :
    ∃ p t ch w u, s.emptyHolder i r = { s with posting := p, table := t, channels := ch, retired := w, events := u } := by
  unfold State.emptyHolder
  obtain ⟨t, ch, w, u, h⟩ := State.finishOne_frame (s.setPosting i _) r.target.handle
  exact ⟨_, t, ch, w, u, h⟩

/-! ## The session end -/

/-- A channel at a session end: channels, memory records and events may change. -/
theorem State.endChannelSession_frame (s : State) (i : SlotId) (c : ChannelId) :
    ∃ ch m u, s.endChannelSession i c = { s with channels := ch, memory := m, events := u } := by
  unfold State.endChannelSession
  dsimp only
  split
  · split
    · exact ⟨_, _, _, rfl⟩
    · exact ⟨_, _, _, rfl⟩
  · exact ⟨_, _, _, rfl⟩

/-- All channels at a session end: channels, memory records and events may change. -/
theorem State.endChannelSessions_frame (s : State) (i : SlotId) :
    ∃ ch m u, s.endChannelSessions i = { s with channels := ch, memory := m, events := u } := by
  unfold State.endChannelSessions
  generalize fourIds = l
  induction l generalizing s with
  | nil => exact ⟨_, _, _, rfl⟩
  | cons c cs ih =>
    obtain ⟨ch, m, u, h⟩ := s.endChannelSession_frame i c
    obtain ⟨ch', m', u', h'⟩ := ih (s.endChannelSession i c)
    refine ⟨ch', m', u', ?_⟩
    rw [List.foldl_cons, h', h]

/-- A purge changes posting units and events. -/
theorem State.purge_frame (s : State) (i : SlotId) (k : EndCause) :
    ∃ p u, s.purge i k = { s with posting := p, events := u } := by
  unfold State.purge
  dsimp only
  split
  · exact ⟨_, _, rfl⟩
  · exact ⟨_, _, rfl⟩

/-- The table at a session end: table, retired-handle set, channels and events may change. -/
theorem State.endTableSession_frame (s : State) (e : SessionEnd) :
    ∃ t r ch u, s.endTableSession e = { s with table := t, retired := r, channels := ch, events := u } := by
  unfold State.endTableSession
  dsimp only
  split
  · exact ⟨_, _, _, _, rfl⟩
  · exact ⟨_, _, _, _, rfl⟩

/-- A session end leaves the port, the command port, the slot controllers, the collection limit, the setting words, the
answer and the queue. -/
theorem State.endSession_frame (s : State) (e : SessionEnd) :
    ∃ t r ch m q p u, s.endSession e =
      { s with table := t, retired := r, channels := ch, memory := m, sequencers := q, posting := p, events := u } := by
  unfold State.endSession
  dsimp only
  obtain ⟨ch, m, u, h⟩ := s.endChannelSessions_frame e.slot
  rw [h]
  obtain ⟨p, u', h'⟩ := State.purge_frame
    (State.setSequencer { s with channels := ch, memory := m, events := u } e.slot Sequencer.initial) e.slot e.cause
  rw [h']
  obtain ⟨t, r, ch', u'', h''⟩ := State.endTableSession_frame
    { (State.setSequencer { s with channels := ch, memory := m, events := u } e.slot Sequencer.initial) with
      posting := p, events := u' } e
  rw [h'']
  exact ⟨_, _, _, _, _, _, _, rfl⟩

/-! ## Answers -/

/-- A refused access changes events and the answer alone (R97). -/
theorem State.refuse_frame (s : State) (o : FaultOffer) (k : ErrorCode) :
    ∃ u, s.refuse o k = { s with events := u, answer := some (.error k) } := ⟨_, rfl⟩

/-- A completed command changes the command port and events, over the state it has written (R67). -/
theorem State.complete_frame (s : State) (k : ResultCode) (w : Quad Word) :
    ∃ u, s.complete k w =
      { s with
        command := { s.command with executing := none, resultCode := k, results := w }
        events := u } := ⟨_, rfl⟩

end Sys2Proof.Machine
end

