-- ==== Sys2Proof/Laws/Lookup.lean ====
section
/-! SUPPORT. The searches and range tests of the model as propositions: first matches over slots, channels and handles, the
port's windows, bytes of words, and the channels that block a table command. -/

namespace Sys2Proof.Machine

/-! ## First matches -/

theorem fourIds_eq_finRange : fourIds = List.finRange 4 := by decide

/-- The element at an index, with what stands before it. -/
theorem finRange_split {n : Nat} (c : Fin n) :
    List.finRange n = (List.finRange n).take c.val ++ c :: (List.finRange n).drop (c.val + 1) := by
  have hc : c.val < (List.finRange n).length := by simp
  have e := List.take_append_drop c.val (List.finRange n)
  rw [List.drop_eq_getElem_cons hc] at e
  simpa using e.symm

/-- What stands before an element is below it. -/
theorem lt_of_mem_take_finRange {n : Nat} {a c : Fin n} (h : a ∈ (List.finRange n).take c.val) : a < c := by
  rw [List.mem_take_iff_getElem] at h
  obtain ⟨i, hi, rfl⟩ := h
  simp only [List.length_finRange, lt_min_iff] at hi
  exact Fin.lt_def.2 (by simpa using hi.1)

/-- The lowest number with a property is the one found. -/
theorem find_finRange {n : Nat} (p : Fin n → Bool) (c : Fin n) (h : p c = true) (k : ∀ d, d < c → p d = false) :
    (List.finRange n).find? p = some c := by
  rw [List.find?_eq_some_iff_append]
  refine ⟨h, _, _, finRange_split c, fun a ha => ?_⟩
  simp [k a (lt_of_mem_take_finRange ha)]

/-- The lowest number with an image gives the image found. -/
theorem findSome_finRange {n : Nat} {β : Type} (p : Fin n → Option β) (c : Fin n) (b : β) (h : p c = some b)
    (k : ∀ d, d < c → p d = none) : (List.finRange n).findSome? p = some b := by
  rw [List.findSome?_eq_some_iff]
  exact ⟨_, c, _, finRange_split c, h, fun a ha => k a (lt_of_mem_take_finRange ha)⟩

/-! ## Channels that block a table command (R69) -/

/-- No channel blocks. -/
theorem State.activeBound_none (s : State) (h : Handle) (p : Channel → Bool)
    (k : ∀ c, ¬((s.channel c).bound = some h ∧ (s.channel c).isActive = true ∧ p (s.channel c) = true)) :
    s.activeBound h p = none := by
  unfold State.activeBound
  rw [List.find?_eq_none]
  intro c _
  simpa [and_assoc] using k c

/-- The lowest channel that blocks. -/
theorem State.activeBound_some (s : State) (h : Handle) (p : Channel → Bool) (c : ChannelId)
    (a : (s.channel c).bound = some h ∧ (s.channel c).isActive = true ∧ p (s.channel c) = true)
    (k : ∀ d, d < c → ¬((s.channel d).bound = some h ∧ (s.channel d).isActive = true ∧ p (s.channel d) = true)) :
    s.activeBound h p = some c := by
  unfold State.activeBound
  rw [fourIds_eq_finRange]
  refine find_finRange _ c (by simp [a]) (fun d hd => ?_)
  rw [Bool.eq_false_iff]
  simpa [and_assoc] using k d hd

/-- All entries are FREE (R93). -/
theorem State.allFree_iff (s : State) : s.allFree = true ↔ ∀ h, (s.entry h).state = .free := by
  simp [State.allFree, handles]

/-! ## Windows and ranges (R44, R91, R104) -/

theorem Port.inWindow_iff (p : Port) (a : Word) :
    p.inWindow a = true ↔
      4293918720 + 65536 * p.location.val ≤ a.toNat ∧ a.toNat < 4293918720 + 65536 * p.location.val + 4096 := by
  simp only [Port.inWindow, Bool.and_eq_true, decide_eq_true_eq]
  simp only [Port.windowStart, Config.windowBase, Config.windowStride, Config.windowBytes]

theorem Port.inAperture_iff (p : Port) (a : Word) :
    p.inAperture a = true ↔
      268435456 * p.region.val ≤ a.toNat ∧ a.toNat < 268435456 * p.region.val + 268435456 := by
  simp only [Port.inAperture, Bool.and_eq_true, decide_eq_true_eq]
  simp only [Port.base, Config.apertureBytes]

theorem Port.blocksMaster_iff (p : Port) (a : Word) :
    p.blocksMaster a = true ↔ p.inWindow a = true ∨ (p.enable = true ∧ p.inAperture a = true) := by
  simp only [Port.blocksMaster, Bool.or_eq_true, Bool.and_eq_true]

theorem validRange_iff (first count : Nat) :
    validRange first count = true ↔ 1 ≤ count ∧ count ≤ 65536 ∧ first + count ≤ 65536 := by
  simp only [validRange, Bool.and_eq_true, decide_eq_true_eq, and_assoc]
  simp only [Config.granules]

/-! ## Bytes of words -/

/-- A word made of bytes gives them back. -/
theorem byteAt_wordOfBytes (L : List Byte) (k : Nat) (h : k < L.length) (h4 : L.length ≤ 4) :
    byteAt (wordOfBytes L) k = L[k] := by
  rcases L with _ | ⟨a, _ | ⟨b, _ | ⟨c, _ | ⟨d, L⟩⟩⟩⟩
  · simp at h
  · obtain rfl : k = 0 := by simp at h; omega
    simp [byteAt, wordOfBytes]; apply BitVec.eq_of_toNat_eq; simp; omega
  · simp at h
    have := a.isLt; have := b.isLt
    obtain rfl | rfl : k = 0 ∨ k = 1 := by omega
    all_goals simp [byteAt, wordOfBytes]; apply BitVec.eq_of_toNat_eq; simp; omega
  · simp at h
    have := a.isLt; have := b.isLt; have := c.isLt
    obtain rfl | rfl | rfl : k = 0 ∨ k = 1 ∨ k = 2 := by omega
    all_goals simp [byteAt, wordOfBytes]; apply BitVec.eq_of_toNat_eq; simp; omega
  · obtain rfl : L = [] := by simp at h4; exact List.eq_nil_of_length_eq_zero (by omega)
    simp at h
    have := a.isLt; have := b.isLt; have := c.isLt; have := d.isLt
    obtain rfl | rfl | rfl | rfl : k = 0 ∨ k = 1 ∨ k = 2 ∨ k = 3 := by omega
    all_goals simp [byteAt, wordOfBytes]; apply BitVec.eq_of_toNat_eq; simp; omega

/-- A replaced byte is the new one, the others stay. -/
theorem byteAt_setByte (w : Word) (i k : Nat) (b : Byte) (h : k < 4) :
    byteAt (setByte w i b) k = if k = i then b else byteAt w k := by
  unfold setByte
  rw [byteAt_wordOfBytes _ _ (by simpa using h) (by simp)]
  simp

/-- A position of a word as a quotient of its value. -/
theorem getLsbD_eq_div (w : Word) (i : Nat) : w.getLsbD i = decide (w.toNat / 2 ^ i % 2 = 1) := by
  rw [BitVec.getLsbD, Nat.testBit_eq_decide_div_mod_eq]

end Sys2Proof.Machine
end

