-- ==== Sys2Proof/Laws/Units.lean ====
section
/-! SUPPORT. What a choice at a sequencer and the start of a unit can do, said once: the cases of a choice, what it leaves in
other slots, and that a unit's start reads and writes its own channel alone. -/

namespace Sys2Proof.Machine

/-! ## Choices (R126 to R129) -/

/-- A channel whose module half is due (R126). -/
theorem Channel.halfDue_iff (c : Channel) :
    c.halfDue = true ↔
      ∃ u, (c.state = .armed ∨ c.state = .running) ∧ c.unit = some u ∧ u.half = .moduleHalf ∧
        u.moduleBegun = false := by
  unfold Channel.halfDue
  cases c.unit <;> simp

/-- No channel of a slot has a half due. -/
theorem State.dueChannel_none (s : State) (i : SlotId)
    (h : ∀ c, (s.channel c).halfDue = true → s.channelSlot c ≠ some i) : s.dueChannel i = none := by
  unfold State.dueChannel
  rw [List.find?_eq_none]
  intro c _
  simpa using h c

/-- The lowest channel of a slot with a half due (R128). -/
theorem State.dueChannel_some (s : State) (i : SlotId) (c : ChannelId) (h : (s.channel c).halfDue = true)
    (hs : s.channelSlot c = some i) (k : ∀ d, d < c → (s.channel d).halfDue = true → s.channelSlot d ≠ some i) :
    s.dueChannel i = some c := by
  unfold State.dueChannel
  rw [fourIds_eq_finRange]
  refine find_finRange _ c (by simp [h, hs]) (fun d hd => ?_)
  rw [Bool.eq_false_iff]
  simpa using k d hd

/-- A choice does nothing, begins the system work offered, or begins the half of the due channel. -/
theorem State.choose_cases (s : State) (i : SlotId) (l : Lines) :
    s.choose i l = s ∨
    (∃ w, (s.sequencer i).access = none ∧ (s.postingUnit i).offered = some w ∧ s.choose i l = s.beginSystem i w l) ∨
    ∃ c, (s.sequencer i).access = none ∧ s.dueChannel i = some c ∧ s.choose i l = s.beginHalf i c l := by
  unfold State.choose
  cases (s.sequencer i).access with
  | some a => exact .inl rfl
  | none =>
    cases (s.postingUnit i).offered with
    | none =>
      cases s.dueChannel i with
      | none => exact .inl rfl
      | some c => exact .inr (.inr ⟨c, rfl, rfl, rfl⟩)
    | some w =>
      cases s.dueChannel i with
      | none => exact .inr (.inl ⟨w, rfl, rfl, rfl⟩)
      | some c =>
        cases (s.sequencer i).preference
        · exact .inr (.inl ⟨w, rfl, rfl, rfl⟩)
        · exact .inr (.inr ⟨c, rfl, rfl, rfl⟩)

/-- A choice at one slot leaves the posting units and sequencers of the others. -/
theorem State.choose_other (s : State) (i j : SlotId) (l : Lines) (h : j ≠ i) :
    (s.choose i l).postingUnit j = s.postingUnit j ∧ (s.choose i l).sequencer j = s.sequencer j := by
  rcases s.choose_cases i l with e | ⟨w, _, _, e⟩ | ⟨c, _, _, e⟩ <;> rw [e]
  · exact ⟨rfl, rfl⟩
  · cases w <;> simp [State.beginSystem, State.beginAccess, h]
  · unfold State.beginHalf
    dsimp only
    split <;> simp [State.beginAccess, h]

/-- A choice leaves the queue as it is. -/
theorem State.choose_queue (s : State) (i : SlotId) (l : Lines) :
    ((s.choose i l).postingUnit i).queue = (s.postingUnit i).queue := by
  rcases s.choose_cases i l with e | ⟨w, _, _, e⟩ | ⟨c, _, _, e⟩ <;> rw [e]
  · cases w <;> simp [State.beginSystem, State.beginAccess]
  · unfold State.beginHalf
    dsimp only
    split <;> simp [State.beginAccess]

/-! ## The start of a unit (R152) -/

/-- The start of a unit leaves every other channel and its memory access. -/
theorem State.startUnit_other (s : State) (c d : ChannelId) (h : d ≠ c) :
    (s.startUnit c).channel d = s.channel d ∧ (s.startUnit c).memoryRecord d = s.memoryRecord d := by
  unfold State.startUnit
  dsimp only
  split
  · exact ⟨rfl, rfl⟩
  · split
    · simp [h]
    · unfold State.issueMemory State.abortChannel
      split <;> simp [h]

/-- The start of a unit reads its channel, the table and the port alone. -/
theorem State.startUnit_congr (s t : State) (c : ChannelId) (h1 : s.channel c = t.channel c) (h2 : s.table = t.table)
    (h3 : s.port = t.port) (h4 : s.memoryRecord c = t.memoryRecord c) :
    (s.startUnit c).channel c = (t.startUnit c).channel c ∧
      (s.startUnit c).memoryRecord c = (t.startUnit c).memoryRecord c := by
  have he : ∀ h, s.entry h = t.entry h := by intro h; unfold State.entry; simp only [h2]
  unfold State.startUnit
  dsimp only
  rw [← h1]
  split
  · exact ⟨h1, h4⟩
  · rw [he]
    split
    · simp [h4]
    · unfold State.issueMemory State.abortChannel
      simp only [State.setChannel_port, h3]
      split <;> rename_i hb <;> simp [hb]

/-- The level of the request line that a channel's slot has. -/
theorem State.requestLevel_eq (s : State) (c : ChannelId) (l : Lines) :
    s.requestLevel c l =
      match (s.channel c).bound with
      | none => false
      | some h => (l.get (s.entry h).slot).request := by
  unfold State.requestLevel State.channelSlot
  cases (s.channel c).bound <;> rfl

end Sys2Proof.Machine
end

