-- ==== Sys2Proof/Laws/Sessions.lean ====
section
/-! SUPPORT. What a session end does to every block and which flags it raises, said once (R36, R53, R59, R122, R138, R155). -/

namespace Sys2Proof.Machine

/-- One channel's session end leaves the slot that each channel belongs to. -/
theorem State.endChannelSession_slot (s : State) (i : SlotId) (c d : ChannelId) :
    (s.endChannelSession i c).channelSlot d = s.channelSlot d := by
  unfold State.endChannelSession
  dsimp only
  by_cases h : d = c
  · subst h
    split
    · split <;> simp [State.channelSlot, State.abortChannel, State.entry]
    · rfl
  · split
    · split <;> simp [State.channelSlot, State.abortChannel, h, State.entry]
    · rfl

/-- One channel at a session end: aborted if active, and masked (R155). -/
theorem State.endChannelSession_channel (s : State) (i : SlotId) (c d : ChannelId) :
    (s.endChannelSession i c).channel d =
      if d = c ∧ s.channelSlot c = some i then (s.channel c).sessionEnded false else s.channel d := by
  unfold State.endChannelSession
  dsimp only
  by_cases h : s.channelSlot c = some i
  · rw [if_pos h]
    by_cases e : d = c
    · subst e
      by_cases a : (s.channel d).isActive = true <;> simp [State.abortChannel, Channel.sessionEnded, a, h]
    · by_cases a : (s.channel c).isActive = true <;> simp [State.abortChannel, e, a]
  · rw [if_neg h, if_neg (fun q => h q.2)]

/-- The memory access records after one channel's session end (R155). -/
theorem State.endChannelSession_memory (s : State) (i : SlotId) (c d : ChannelId) :
    (s.endChannelSession i c).memoryRecord d =
      if d = c ∧ s.channelSlot c = some i ∧ (s.channel c).isActive = true then none else s.memoryRecord d := by
  unfold State.endChannelSession
  dsimp only
  by_cases h : s.channelSlot c = some i
  · rw [if_pos h]
    by_cases e : d = c
    · subst e
      by_cases a : (s.channel d).isActive = true <;> simp [State.abortChannel, a, h]
    · by_cases a : (s.channel c).isActive = true <;> simp [State.abortChannel, e, a]
  · rw [if_neg h, if_neg (fun q => h q.2.1)]

/-- The event unit after one channel's session end: CHANNEL_ABORT if it was active (R155). -/
theorem State.endChannelSession_events (s : State) (i : SlotId) (c : ChannelId) :
    (s.endChannelSession i c).events =
      if s.channelSlot c = some i ∧ (s.channel c).isActive = true then s.events.raise (Flag.channelAbort c) else s.events := by
  unfold State.endChannelSession
  dsimp only
  by_cases h : s.channelSlot c = some i
  · rw [if_pos h]
    split <;> simp [State.abortChannel, *]
  · rw [if_neg h, if_neg (fun q => h q.1)]

/-- The four channels. -/
theorem channelId_cases (c : Fin 4) : c = 0 ∨ c = 1 ∨ c = 2 ∨ c = 3 := by revert c; decide

/-- Every channel of the slot is aborted if active, and masked (R155). -/
theorem State.endChannelSessions_channel (s : State) (i : SlotId) (c : ChannelId) :
    (s.endChannelSessions i).channel c =
      if s.channelSlot c = some i then (s.channel c).sessionEnded false else s.channel c := by
  unfold State.endChannelSessions fourIds
  simp only [List.foldl, State.endChannelSession_channel, State.endChannelSession_slot]
  rcases channelId_cases c with rfl | rfl | rfl | rfl <;> simp

/-- A session end of the channels leaves the slot each belongs to. -/
theorem State.endChannelSessions_slot (s : State) (i : SlotId) (c : ChannelId) :
    (s.endChannelSessions i).channelSlot c = s.channelSlot c := by
  unfold State.endChannelSessions fourIds
  simp only [List.foldl, State.endChannelSession_slot]

/-- The memory access records after the session end of the channels (R155). -/
theorem State.endChannelSessions_memory (s : State) (i : SlotId) (c : ChannelId) :
    (s.endChannelSessions i).memoryRecord c =
      if s.channelSlot c = some i ∧ (s.channel c).isActive = true then none else s.memoryRecord c := by
  unfold State.endChannelSessions fourIds
  simp only [List.foldl, State.endChannelSession_memory, State.endChannelSession_slot, State.endChannelSession_channel]
  rcases channelId_cases c with rfl | rfl | rfl | rfl <;> simp

/-- The session end of the channels raises CHANNEL_ABORT of each active one (R155). -/
theorem State.endChannelSessions_raised (s : State) (i : SlotId) {u : EventUnit} {new new' : Flag → Prop}
    (r : u.Raised s.events new)
    (k : ∀ g, new' g ↔
      new g ∨ ∃ c, s.channelSlot c = some i ∧ (s.channel c).isActive = true ∧ g = Flag.channelAbort c) :
    u.Raised (s.endChannelSessions i).events new' := by
  unfold State.endChannelSessions fourIds
  simp only [List.foldl, State.endChannelSession_events, State.endChannelSession_slot, State.endChannelSession_channel]
  simp only [Fin.isValue, show ¬((1 : ChannelId) = 0) by decide, show ¬((2 : ChannelId) = 0) by decide,
    show ¬((2 : ChannelId) = 1) by decide, show ¬((3 : ChannelId) = 0) by decide, show ¬((3 : ChannelId) = 1) by decide,
    show ¬((3 : ChannelId) = 2) by decide, false_and, if_false]
  have n : ∀ c, (Flag.channelAbort c).Named := by decide
  refine (((r.raiseIf _ _ (n 0) (fun _ => Iff.rfl)).raiseIf _ _ (n 1) (fun _ => Iff.rfl)).raiseIf _ _ (n 2)
    (fun _ => Iff.rfl)).raiseIf _ _ (n 3) (fun g => ?_)
  rw [k]
  constructor
  · rintro (a | ⟨c, a, b, rfl⟩)
    · simp [a]
    · rcases channelId_cases c with rfl | rfl | rfl | rfl <;> simp [a, b]
  · rintro ((((a | ⟨⟨a, b⟩, e⟩) | ⟨⟨a, b⟩, e⟩) | ⟨⟨a, b⟩, e⟩) | ⟨⟨a, b⟩, e⟩)
    · exact .inl a
    all_goals exact .inr ⟨_, a, b, e⟩

/-- Which entries the removal policy frees (R53). -/
theorem Entry.freedAtEnd_eq (x : Entry) (p : RemovalPolicy) (ep : BitVec 16) :
    (x.state != .free && (x.afterSession p ep).state == .free) = x.freedAtEnd p := by
  unfold Entry.afterSession Entry.freedAtEnd
  cases h : x.state <;> cases p <;> simp [h, Entry.free] <;> rfl

/-- The posting units after a purge (R122). -/
theorem State.purge_posting (s : State) (i j : SlotId) (k : EndCause) (h : k ≠ .softReset) :
    (s.purge i k).postingUnit j = if j = i then (s.postingUnit i).purged else s.postingUnit j := by
  unfold State.purge PostingUnit.purged
  dsimp only
  split <;> (by_cases e : j = i <;> simp [e, addDiscards, Config.discardedMax])

/-- A purge raises DATA_LOST if a write was queued (R122). -/
theorem State.purge_events (s : State) (i : SlotId) (k : EndCause) (h : k ≠ .softReset) :
    (s.purge i k).events = if (s.postingUnit i).queue ≠ [] then s.events.raise (Flag.dataLost i) else s.events := by
  unfold State.purge
  dsimp only
  by_cases q : (s.postingUnit i).queue = [] <;> simp [q, h]

/-- The bit of a handle in a word of handle marks. -/
theorem handleMarks_bit (p : Handle → Bool) (h : Handle) : (handleMarks p).getLsbD h.val = p h := by
  have gen : ∀ (L : List Handle) (w : Word),
      (L.foldl (fun w h => if p h then w ||| positionMark h.val else w) w).getLsbD h.val =
        (w.getLsbD h.val || (L.contains h && p h)) := by
    intro L
    induction L with
    | nil => intro w; simp
    | cons k ks ih =>
      intro w
      rw [List.foldl_cons, ih]
      by_cases e : h = k
      · subst e
        cases q : p h <;> simp [positionMark, h.isLt]
      · have e' : ¬ k.val = h.val := fun z => e (Fin.ext z.symm)
        have ek : (h == k) = false := by simp [e]
        rw [List.contains_cons, ek]
        have e'' : ¬ h.val = k.val := fun z => e' z.symm
        cases q : p k <;> simp [positionMark, e'']
  unfold handleMarks
  rw [gen]
  rw [(by decide : ∀ h, handles.contains h = true) h]; simp

/-- A word of handle marks is 0 exactly when it marks none. -/
theorem handleMarks_zero (p : Handle → Bool) : handleMarks p = 0 ↔ ∀ h, p h = false := by
  constructor
  · intro e h; rw [← handleMarks_bit p h, e]; simp
  · intro e
    apply BitVec.eq_of_getLsbD_eq
    intro i hi
    rw [handleMarks_bit p ⟨i, hi⟩, e]; simp

/-- The channels after the table's session end: a binding to a freed entry is lost (R47). -/
theorem State.endTableSession_channel (s : State) (e : SessionEnd) (c : ChannelId) :
    (s.endTableSession e).channel c =
      { s.channel c with bound := match (s.channel c).bound with
        | none => none
        | some h =>
          if (s.entry h).slot = e.slot ∧ (s.entry h).freedAtEnd (s.slot e.slot).config.policy = true then none
          else some h } := by
  unfold State.endTableSession
  dsimp only
  have : ∀ (t : State) (p : Handle → Bool), (t.unbindWhere p).channel c =
      { t.channel c with bound := match (t.channel c).bound with
        | none => none
        | some h => if p h then none else some h } := by
    intro t p
    simp only [State.unbindWhere, State.channel, Quad.get_map]
    cases h : (t.channels.get c).bound with
    | none => simp [← h]
    | some k => dsimp only; split <;> simp [← h]
  have key : ∀ (p : Prop) [Decidable p] (t : State),
      (if p then t else t.raise Flag.retired).channel c = t.channel c := by
    intro p _ t; split <;> rfl
  rw [key, this]
  simp only [State.channel, Bool.and_assoc, Entry.freedAtEnd_eq, Bool.and_eq_true, beq_iff_eq]

/-- The entries after a session end (R53). -/
theorem State.endTableSession_entry (s : State) (e : SessionEnd) (h : Handle) :
    (s.endTableSession e).entry h =
      if (s.entry h).slot = e.slot then (s.entry h).afterSession (s.slot e.slot).config.policy e.epoch else s.entry h := by
  unfold State.endTableSession
  dsimp only
  have key : ∀ (p : Prop) [Decidable p] (t : State), (if p then t else t.raise Flag.retired).entry h = t.entry h := by
    intro p _ t; split <;> rfl
  rw [key]
  simp [State.unbindWhere, State.entry]
  rfl

/-- The retired-handle set after a session end (R53, R59). -/
theorem State.endTableSession_retired (s : State) (e : SessionEnd) (h : Handle) :
    (s.endTableSession e).retired.getLsbD h.val =
      (s.retired.getLsbD h.val || ((s.entry h).slot == e.slot && (s.entry h).state == .fenced)) := by
  unfold State.endTableSession
  dsimp only
  have key : ∀ (p : Prop) [Decidable p] (t : State), (if p then t else t.raise Flag.retired).retired = t.retired := by
    intro p _ t; split <;> rfl
  rw [key]
  simp only [State.unbindWhere, BitVec.getLsbD_or, handleMarks_bit]

/-- The table's session end raises RETIRED if a FENCED entry is freed (R59). -/
theorem State.endTableSession_events (s : State) (e : SessionEnd) :
    (s.endTableSession e).events =
      if ∃ h, (s.entry h).slot = e.slot ∧ (s.entry h).state = .fenced then s.events.raise Flag.retired else s.events := by
  unfold State.endTableSession
  dsimp only
  split
  · rename_i z
    rw [handleMarks_zero] at z
    rw [if_neg]
    · rfl
    · rintro ⟨h, a, b⟩; simpa [a, b] using z h
  · rename_i z
    rw [handleMarks_zero] at z
    rw [if_pos]
    · rfl
    · simpa using z

/-- An entry after a session end, by cases (R53, R54). -/
theorem Entry.afterSession_eq (x : Entry) (p : RemovalPolicy) (ep : BitVec 16) :
    x.afterSession p ep = if x.freedAtEnd p then Entry.free
      else if x.state = .free then x
      else if x.state = .live then { x with state := .orphaned, boundEpoch := some ep, inFlight := 0 }
      else { x with inFlight := 0 } := by
  unfold Entry.afterSession Entry.freedAtEnd
  cases x.state <;> cases p <;> simp [show (RemovalPolicy.keep == RemovalPolicy.release) = false from rfl]

/-- A session end, but for a soft reset's, in every block but the slot controller and the event unit. -/
theorem State.endSession_ended (s : State) (e : SessionEnd) (hc : e.cause ≠ .softReset) :
    s.SessionEnded (s.endSession e) e.slot e.epoch := by
  have fr := s.endSession_frame e
  obtain ⟨_, _, _, _, _, _, _, fr⟩ := fr
  obtain ⟨ch, m, u, hs⟩ := s.endChannelSessions_frame e.slot
  have hch := State.endChannelSessions_channel s e.slot
  have hm := State.endChannelSessions_memory s e.slot
  rw [hs] at hch hm
  unfold State.endSession
  dsimp only
  rw [hs]
  generalize hA : State.setSequencer { s with channels := ch, memory := m, events := u } e.slot Sequencer.initial = A
  obtain ⟨p, u', hp⟩ := A.purge_frame e.slot e.cause
  have hpost := fun j => State.purge_posting A e.slot j e.cause hc
  generalize hB : A.purge e.slot e.cause = B at *
  obtain ⟨tt, tr, tch, tu, ht⟩ := B.endTableSession_frame e
  have hent : ∀ h, B.entry h = s.entry h := by intro h; rw [hp, ← hA]; rfl
  have hslot : ∀ i, B.slot i = s.slot i := by intro h; rw [hp, ← hA]; rfl
  have te := State.endTableSession_entry B e
  have tr' := State.endTableSession_retired B e
  have tc := State.endTableSession_channel B e
  generalize hC : B.endTableSession e = C at *
  have ev : ∀ u f, ((C.setEvents u).raise f) = { C with events := u.raise f } := fun _ _ => rfl
  rw [ev]
  have Aseq : ∀ j, C.sequencer j = if j = e.slot then Sequencer.initial else s.sequencer j := by
    intro j; rw [ht, hp, ← hA]
    by_cases q : j = e.slot
    · subst q; simp [State.sequencer, State.setSequencer]
    · simp [State.sequencer, State.setSequencer, q]
  have Cpost : ∀ j, C.postingUnit j = if j = e.slot then (s.postingUnit e.slot).purged else s.postingUnit j := by
    intro j
    have : C.postingUnit j = B.postingUnit j := by rw [ht]; rfl
    rw [this, hpost j, ← hA]; rfl
  refine ⟨?_, ?_, ?_, ?_, ?_, ?_, ?_, ?_, ?_, ?_, ?_, ?_⟩
  · change C.postingUnit e.slot = _
    rw [Cpost]; simp
  · intro j q; change C.postingUnit j = _
    rw [Cpost]; simp [q]
  · change C.sequencer e.slot = _
    rw [Aseq]; simp
  · intro j q; change C.sequencer j = _
    rw [Aseq]; simp [q]
  · intro h; change C.entry h = _
    rw [te, hent, hslot, Entry.afterSession_eq]
  · intro h; change C.retired.getLsbD h.val = _
    rw [tr', hent]; congr 1; rw [hp, ← hA]; rfl
  · intro c; change C.channel c = _
    rw [tc]
    have hb : B.channel c = if s.channelSlot c = some e.slot then (s.channel c).sessionEnded false else s.channel c := by
      rw [← hch, hp, ← hA]; rfl
    rw [hb]
    unfold State.loses
    simp only [hent, hslot]
    by_cases q : s.channelSlot c = some e.slot
    · simp only [q, if_true]
      unfold State.channelSlot at q
      unfold Channel.sessionEnded
      cases hbound : (s.channel c).bound with
      | none => rw [hbound] at q; simp at q
      | some h =>
        rw [hbound] at q
        simp at q
        by_cases f : (s.entry h).freedAtEnd (s.slot e.slot).config.policy = true <;> simp [q, f]
    · simp only [q, if_false]
      unfold State.channelSlot at q
      cases hbound : (s.channel c).bound with
      | none => simp [← hbound]
      | some h =>
        rw [hbound] at q
        simp at q
        simp [q, ← hbound]
  · intro c; change C.memoryRecord c = _
    have : C.memoryRecord c = B.memoryRecord c := by rw [ht]; rfl
    rw [this, hp, ← hA, ← hm]; rfl
  · change C.port = _; rw [ht, hp, ← hA]; rfl
  · change C.command = _; rw [ht, hp, ← hA]; rfl
  · change C.settings = _; rw [ht, hp, ← hA]; rfl
  · change C.collectionLimit = _; rw [ht, hp, ← hA]; rfl

/-- A session end, but for a soft reset's, deasserts the ALERT source and raises exactly SESSION_DOWN, DATA_LOST if a write
is purged, RETIRED if a FENCED entry is freed, and CHANNEL_ABORT of each channel aborted. -/
theorem State.endSession_raised (s : State) (e : SessionEnd) (hc : e.cause ≠ .softReset) {u : EventUnit}
    {own new : Flag → Prop}
    (r : u.Raised s.events own)
    (k : ∀ f, new f ↔ own f ∨ f = Flag.sessionDown e.slot ∨ ((s.postingUnit e.slot).queue ≠ [] ∧ f = Flag.dataLost e.slot) ∨
      ((∃ h, (s.entry h).slot = e.slot ∧ (s.entry h).state = .fenced) ∧ f = Flag.retired) ∨
      ∃ c, s.channelSlot c = some e.slot ∧ (s.channel c).isActive = true ∧ f = Flag.channelAbort c) :
    EventUnit.Raised { u with alertSources := u.alertSources.set e.slot false } (s.endSession e).events new := by
  have r1 := State.endChannelSessions_raised s e.slot r (fun _ => Iff.rfl)
  obtain ⟨ch, m, w, hs⟩ := s.endChannelSessions_frame e.slot
  rw [hs] at r1
  unfold State.endSession
  dsimp only
  rw [hs]
  generalize hA : State.setSequencer { s with channels := ch, memory := m, events := w } e.slot Sequencer.initial = A at *
  have eA : A.events = w := by rw [← hA]; rfl
  have pA : A.postingUnit e.slot = s.postingUnit e.slot := by rw [← hA]; rfl
  have r2 := r1.raiseIf ((A.postingUnit e.slot).queue ≠ []) (Flag.dataLost e.slot)
    ((by decide : ∀ i, (Flag.dataLost i).Named) _) (fun _ => Iff.rfl)
  have hev := State.purge_events A e.slot e.cause hc
  rw [eA] at hev
  dsimp only at r2
  rw [← hev] at r2
  obtain ⟨p, u', hp⟩ := A.purge_frame e.slot e.cause
  generalize hB : A.purge e.slot e.cause = B at *
  have hent : ∀ h, B.entry h = s.entry h := by intro h; rw [hp, ← hA]; rfl
  have r3 := r2.raiseIf (∃ h, (B.entry h).slot = e.slot ∧ (B.entry h).state = .fenced) Flag.retired
    (by decide) (fun _ => Iff.rfl)
  rw [← State.endTableSession_events B e] at r3
  have r4 := r3.presentAlert e.slot false
  refine r4.raise (Flag.sessionDown e.slot) ((by decide : ∀ i, (Flag.sessionDown i).Named) _) (fun f => ?_)
  rw [k, pA]
  simp only [hent]
  simp only [Bool.false_eq_true, false_and, or_false]
  generalize (∃ c, s.channelSlot c = some e.slot ∧ (s.channel c).isActive = true ∧ f = Flag.channelAbort c) = Z
  simp only [or_assoc, or_comm, or_left_comm]

end Sys2Proof.Machine
end

