-- ==== Sys2Proof/Laws/Window.lean ====
section
/-! SUPPORT. Reads of the control window, said once: a read of a location answers the register's value, and the layout of
every word software reads as one number (10.3 to 10.7). -/

namespace Sys2Proof.Machine

/-! ## A read of a location (R92) -/

/-- A 4-byte read at word `n` of the control window is the window's read of that word. -/
theorem exec_apertureRead_window (s : State) (l : Lines) (n : Nat) (hn : n < 1024) :
    exec (.apertureRead (BitVec.ofNat 32 (4293918720 + 65536 * s.port.location.val + 4 * n)) .four l) s =
      .next (s.readWindow n) := by
  have hl := s.port.location.isLt
  have ha : (BitVec.ofNat 32 (4293918720 + 65536 * s.port.location.val + 4 * n)).toNat =
      4293918720 + 65536 * s.port.location.val + 4 * n := by
    simp only [BitVec.toNat_ofNat]; omega
  have hw : s.port.inWindow (BitVec.ofNat 32 (4293918720 + 65536 * s.port.location.val + 4 * n)) = true := by
    simp only [Port.inWindow, Bool.and_eq_true, decide_eq_true_eq, ha, Port.windowStart, Config.windowBase,
      Config.windowStride, Config.windowBytes]
    omega
  have hk : s.port.kindOf (BitVec.ofNat 32 (4293918720 + 65536 * s.port.location.val + 4 * n)) = .window := by
    simp [Port.kindOf, hw]
  have hm : (4293918720 + 65536 * s.port.location.val + 4 * n) % 4 = 0 := by omega
  have hq : (4293918720 + 65536 * s.port.location.val + 4 * n - s.port.windowStart) / 4 = n := by
    simp only [Port.windowStart, Config.windowBase, Config.windowStride]; omega
  simp [exec, execApertureRead, State.portAccess, hk, State.windowAccess, Access.aligned, ha, hm, hq, Size.bytes]

/-- A read of a register that is no event word answers its value and does nothing else (R92, R177). -/
theorem State.readWindow_register (s : State) (n : Nat) (r : Register) (h : registerAt n = some r)
    (ng : ∀ g, r ≠ .event g) : s.readWindow n = s.answered (windowData (s.readRegister r)) := by
  unfold State.readWindow
  rw [h]
  cases r <;> first | rfl | exact absurd rfl (ng _)

/-- The registers of a slot stand at 0x100 + 0x20 s (10.1). -/
theorem registerAt_slot (i : SlotId) (k : Nat) (h : k < 8) : registerAt (64 + 8 * i.val + k) = slotRegister i k := by
  have := i.isLt
  have h8 : (64 + 8 * i.val + k - 64) / 8 = i.val := by omega
  have h9 : (64 + 8 * i.val + k - 64) % 8 = k := by omega
  unfold registerAt
  rw [if_neg (by omega), if_pos (by omega), h8, h9, (by decide : ∀ i : Fin 4, quarter i.val = i) i]

/-- The registers of a channel stand at 0x200 + 0x40 c (10.1). -/
theorem registerAt_channel (c : ChannelId) (k : Nat) (h : k < 16) :
    registerAt (128 + 16 * c.val + k) = channelRegister c k := by
  have := c.isLt
  have h8 : (128 + 16 * c.val + k - 128) / 16 = c.val := by omega
  have h9 : (128 + 16 * c.val + k - 128) % 16 = k := by omega
  unfold registerAt
  rw [if_neg (by omega), if_neg (by omega), if_neg (by omega), if_pos (by omega), h8, h9,
    (by decide : ∀ c : Fin 4, quarter c.val = c) c]

/-! ## Layouts (10.3 to 10.7) -/

/-- A word made of fields is the number its fields add up to. -/
theorem pack_eq (L : List (Nat × Nat × Nat)) (n : Nat) (h : (L.map (fun f => f.2.2 % 2 ^ f.2.1 * 2 ^ f.1)).sum = n) :
    pack L = BitVec.ofNat 32 n := by
  subst h; rfl

/-- The number that one more field adds. -/
theorem packSum_cons (lo size value : Nat) (L : List (Nat × Nat × Nat)) :
    (((lo, size, value) :: L).map (fun f => f.2.2 % 2 ^ f.2.1 * 2 ^ f.1)).sum =
      value % 2 ^ size * 2 ^ lo + (L.map (fun f => f.2.2 % 2 ^ f.2.1 * 2 ^ f.1)).sum := by
  rw [List.map_cons, List.sum_cons]

/-- No field adds 0. -/
theorem packSum_nil : (([] : List (Nat × Nat × Nat)).map (fun f => f.2.2 % 2 ^ f.2.1 * 2 ^ f.1)).sum = 0 := by
  rw [List.map_nil, List.sum_nil]

/-- The powers of two that fields are placed by. -/
theorem two_pow_table :
    ((2 : Nat) ^ 0 = 1 ∧ (2 : Nat) ^ 1 = 2 ∧ (2 : Nat) ^ 2 = 4 ∧ (2 : Nat) ^ 3 = 8 ∧ (2 : Nat) ^ 4 = 16 ∧
      (2 : Nat) ^ 5 = 32 ∧ (2 : Nat) ^ 6 = 64 ∧ (2 : Nat) ^ 7 = 128 ∧ (2 : Nat) ^ 8 = 256 ∧ (2 : Nat) ^ 9 = 512) ∧
    ((2 : Nat) ^ 10 = 1024 ∧ (2 : Nat) ^ 11 = 2048 ∧ (2 : Nat) ^ 12 = 4096 ∧ (2 : Nat) ^ 13 = 8192 ∧
      (2 : Nat) ^ 14 = 16384 ∧ (2 : Nat) ^ 15 = 32768 ∧ (2 : Nat) ^ 16 = 65536 ∧ (2 : Nat) ^ 17 = 131072) ∧
    ((2 : Nat) ^ 18 = 262144 ∧ (2 : Nat) ^ 20 = 1048576 ∧ (2 : Nat) ^ 24 = 16777216 ∧ (2 : Nat) ^ 28 = 268435456) := by
  norm_num

@[simp] theorem flagBit_mod (b : Bool) : flagBit b % 2 = b.toNat := by cases b <;> rfl

@[simp] theorem handleOrZero_mod (o : Option Handle) : handleOrZero o % 32 = (o.map (fun h => h.val)).getD 0 := by
  cases o with
  | none => rfl
  | some h => simp [handleOrZero, Nat.mod_eq_of_lt h.isLt]

/-- A word as a number. -/
theorem word_eq (w : Word) : w = BitVec.ofNat 32 w.toNat := by simp

/-- Aperture-space base (10.3). -/
theorem Port.baseWord_eq (p : Port) : p.baseWord = BitVec.ofNat 32 (p.region.val + 256 * p.enable.toNat) := by
  apply pack_eq
  have := p.region.isLt
  simp only [packSum_cons, packSum_nil, two_pow_table, flagBit_mod]
  omega

/-- Command status (10.4). -/
theorem CommandPort.statusWord_eq (p : CommandPort) :
    p.statusWord = BitVec.ofNat 32
      (p.executing.isSome.toNat + 2 * p.overrun.toNat + 256 * p.resultCode.code +
        65536 * (p.lastAccepted.map (fun code => code.toNat)).getD 0) := by
  apply pack_eq
  have : p.resultCode.code % 16 = p.resultCode.code := by cases p.resultCode <;> rfl
  simp only [packSum_cons, packSum_nil, two_pow_table, flagBit_mod, this]
  cases p.lastAccepted with
  | none => simp only [Option.map, Option.getD]; omega
  | some c => have := c.isLt; simp only [Option.map, Option.getD]; omega

/-- Slot status (10.5). -/
theorem SlotController.statusWord_eq (c : SlotController) :
    c.statusWord = BitVec.ofNat 32
      (c.state.code + 16 * c.contacts.a.toNat + 32 * c.contacts.b.toNat + 64 * switchCode c.switchClass +
        256 * c.resetAsserted.toNat + 512 * c.badSupply.toNat + 1024 * faultKindCode c.faultKind +
        8192 * c.timer.code) := by
  apply pack_eq
  have a1 : c.state.code % 16 = c.state.code := by cases c.state <;> rfl
  have a2 : switchCode c.switchClass % 4 = switchCode c.switchClass := by
    rcases c.switchClass with _ | (_ | _ | _) <;> rfl
  have a3 : faultKindCode c.faultKind % 8 = faultKindCode c.faultKind := by
    rcases c.faultKind with _ | (_ | _ | _ | _) <;> rfl
  have a4 : c.timer.code % 8 = c.timer.code := by rcases c.timer with _ | ⟨_ | _ | _ | _, _⟩ <;> rfl
  simp only [packSum_cons, packSum_nil, two_pow_table, flagBit_mod, a1, a2, a3, a4]
  ring

/-- Slot identity (10.5). -/
theorem Identity.word_eq (r : Identity) :
    r.word = BitVec.ofNat 32
      (r.present.toNat + 2 * r.recognized.toNat + 16 * (r.code % 16) + 256 * kindCode r.kind +
        4096 * ((r.supplySet.getD []).contains .v1v8).toNat + 8192 * ((r.supplySet.getD []).contains .v3v3).toNat +
        16384 * ((r.supplySet.getD []).contains .v5v0).toNat + 65536 * r.epoch.toNat) := by
  apply pack_eq
  have a1 : kindCode r.kind % 4 = kindCode r.kind := by rcases r.kind with _ | (_ | _) <;> rfl
  have a2 : ∀ k, r.accepts k = (r.supplySet.getD []).contains k := by
    intro k; unfold Identity.accepts; cases r.supplySet <;> rfl
  have a3 : r.epoch.toNat % 65536 = r.epoch.toNat := Nat.mod_eq_of_lt r.epoch.isLt
  simp only [packSum_cons, packSum_nil, two_pow_table, flagBit_mod, a1, a2, a3]
  ring

/-- Slot posting status (10.5). -/
theorem PostingUnit.statusWord_eq (p : PostingUnit) :
    p.statusWord = BitVec.ofNat 32
      (p.queue.length % 16 + 16 * holderCode p.holder +
        256 * (p.holder.map (fun r => r.target.handle.val)).getD 0) := by
  apply pack_eq
  simp only [packSum_cons, packSum_nil, two_pow_table]
  rcases p.holder with _ | ⟨g, a, (_ | _ | _ | _)⟩
  · simp only [holderCode, Option.map, Option.getD]; omega
  all_goals
    have := g.handle.isLt
    simp only [holderCode, Option.map, Option.getD]; omega

/-- Slot configuration (10.5). -/
theorem SlotConfig.word_eq (c : SlotConfig) :
    c.word = BitVec.ofNat 32
      ((if c.policy = .release then 1 else 0) + 256 * (c.readyLimit % 256) + 65536 * (c.waitLimit % 256)) := by
  apply pack_eq
  have : flagBit (c.policy == .release) % 2 = if c.policy = .release then 1 else 0 := by cases c.policy <;> rfl
  simp only [packSum_cons, packSum_nil, two_pow_table, this]
  ring

/-- Slot timing profiles (10.5). -/
theorem SlotConfig.profilesWord_eq (c : SlotConfig) :
    c.profilesWord = BitVec.ofNat 32
      ((c.profiles.get 0).code % 256 + 256 * ((c.profiles.get 1).code % 256) +
        65536 * ((c.profiles.get 2).code % 256) + 16777216 * ((c.profiles.get 3).code % 256)) := by
  apply pack_eq
  change _ = c.profiles.at0.code % 256 + 256 * (c.profiles.at1.code % 256) + 65536 * (c.profiles.at2.code % 256) +
    16777216 * (c.profiles.at3.code % 256)
  simp only [packSum_cons, packSum_nil, two_pow_table]
  ring

/-- Channel status (10.6). -/
theorem Channel.statusWord_eq (c : Channel) :
    c.statusWord = BitVec.ofNat 32
      (c.state.code + 8 * c.bound.isSome.toNat + 16 * (c.bound.map (fun h => h.val)).getD 0 +
        512 * abortCauseCode c.abortCause + 4096 * c.mask.toNat + 8192 * c.stopPending.code +
        32768 * c.unitDue.toNat + 65536 * resumeCode c.resumeState + 262144 * unitCode c.unit +
        1048576 * c.lastResult.code) := by
  apply pack_eq
  have a1 : c.state.code % 8 = c.state.code := by cases c.state <;> rfl
  have a2 : abortCauseCode c.abortCause % 8 = abortCauseCode c.abortCause := by
    rcases c.abortCause with _ | (_ | _ | _ | _) <;> rfl
  have a3 : c.stopPending.code % 4 = c.stopPending.code := by cases c.stopPending <;> rfl
  have a4 : resumeCode c.resumeState % 4 = resumeCode c.resumeState := by
    rcases c.resumeState with _ | (_ | _) <;> rfl
  have a5 : unitCode c.unit % 4 = unitCode c.unit := by rcases c.unit with _ | ⟨_ | _, _, _, _, _⟩ <;> rfl
  have a6 : c.lastResult.code % 16 = c.lastResult.code := by cases c.lastResult <;> rfl
  simp only [packSum_cons, packSum_nil, flagBit_mod, two_pow_table, handleOrZero_mod, a1,
    a2, a3, a4, a5, a6]
  ring

/-- Channel record: configuration (10.6). -/
theorem Channel.configurationWord_eq (c : Channel) :
    c.configurationWord = BitVec.ofNat 32
      (c.recordHandle.val + 32 * c.bound.isSome.toNat + (if c.direction = .fromMemory then 256 else 0) +
        512 * c.mode.code + (if c.unitSize = .two then 2048 else 0) + (if c.memoryStep = .down then 4096 else 0) +
        (if c.moduleStep = .up then 8192 else 0) + 16384 * c.reload.toNat) := by
  apply pack_eq
  have a1 : c.recordHandle.val % 32 = c.recordHandle.val := Nat.mod_eq_of_lt c.recordHandle.isLt
  have a2 : flagBit (c.direction == .fromMemory) % 2 * 256 = if c.direction = .fromMemory then 256 else 0 := by
    cases c.direction <;> rfl
  have a3 : flagBit (c.unitSize == .two) % 2 * 2048 = if c.unitSize = .two then 2048 else 0 := by
    cases c.unitSize <;> rfl
  have a4 : flagBit (c.memoryStep == .down) % 2 * 4096 = if c.memoryStep = .down then 4096 else 0 := by
    cases c.memoryStep <;> rfl
  have a5 : flagBit (c.moduleStep == .up) % 2 * 8192 = if c.moduleStep = .up then 8192 else 0 := by
    cases c.moduleStep <;> rfl
  have a6 : c.mode.code % 4 = c.mode.code := by cases c.mode <;> rfl
  simp only [packSum_cons, packSum_nil, two_pow_table, a1, a2, a3, a4, a5, a6]
  simp only [flagBit_mod]
  ring

/-- Event control (10.7). -/
theorem EventUnit.controlWord_eq (u : EventUnit) :
    u.controlWord = BitVec.ofNat 32
      ((if u.clearMode = .writeOneClears then 1 else 0) + (if u.interruptMode = .pulse then 2 else 0)) := by
  cases h : u.clearMode <;> cases k : u.interruptMode <;> simp only [EventUnit.controlWord, h, k] <;> rfl

/-- Event status (10.7). -/
theorem EventUnit.statusWord_eq (u : EventUnit) :
    u.statusWord = BitVec.ofNat 32
      (u.output.toNat + 16 * (u.alertSources.get 0).toNat + 32 * (u.alertSources.get 1).toNat +
        64 * (u.alertSources.get 2).toNat + 128 * (u.alertSources.get 3).toNat) := by
  apply pack_eq
  simp only [packSum_cons, packSum_nil, two_pow_table, flagBit_mod]
  change _ = u.output.toNat + 16 * u.alertSources.at0.toNat + 32 * u.alertSources.at1.toNat +
    64 * u.alertSources.at2.toNat + 128 * u.alertSources.at3.toNat
  ring

/-- Fault status (10.7). -/
theorem FaultRecord.statusWord_eq (r : FaultRecord) :
    r.statusWord = BitVec.ofNat 32
      (r.valid.toNat + 2 * r.more.toNat + 16 * r.fields.kind.code +
        (if r.fields.direction = .write then 128 else 0) + 256 * sizeCode r.fields.size +
        1024 * r.fields.partialMark.toNat + 2048 * r.fields.handle.isSome.toNat +
        4096 * (r.fields.handle.map (fun h => h.val)).getD 0 + 131072 * r.fields.slot.isSome.toNat +
        262144 * (r.fields.slot.map (fun i => i.val)).getD 0 + 1048576 * r.fields.cookie.isSome.toNat) := by
  apply pack_eq
  have a1 : r.fields.kind.code % 8 = r.fields.kind.code := by cases r.fields.kind <;> rfl
  have a2 : flagBit (r.fields.direction == .write) % 2 * 128 = if r.fields.direction = .write then 128 else 0 := by
    cases r.fields.direction <;> rfl
  have a3 : sizeCode r.fields.size % 4 = sizeCode r.fields.size := by cases r.fields.size <;> rfl
  simp only [packSum_cons, packSum_nil, two_pow_table, handleOrZero_mod, a1, a2, a3]
  simp only [flagBit_mod]
  rcases r.fields.slot with _ | i
  · simp only [Option.map, Option.getD]; ring
  · simp only [Option.map, Option.getD, Nat.mod_eq_of_lt i.isLt]; ring

end Sys2Proof.Machine
end

