-- ==== Sys2Proof/Tests/Slice0.lean ====
section
/-! SUPPORT. The model's own tests: what the well-formedness check refuses, single steps on small states, and for every
obligation with hypotheses a state and operands that meet them, one for each clause. -/

namespace Sys2Proof.Tests

open Sys2Proof.Machine

/-! ## Small states -/

/-- The reset state with slot 0 changed. -/
def withSlot (f : SlotController → SlotController) : State := State.reset.setSlot 0 (f (State.reset.slot 0))

/-- The reset state with slot 0 in a slot state. -/
def inState (x : SlotState) : State := withSlot (fun c => { c with state := x })

/-- An identity of a module with the given kind and supply set, under epoch 7. -/
def identity (kind : Kind) (set : List SupplyClass) : Identity :=
  { present := true, recognized := true, code := 2, kind := some kind, supplySet := some set, epoch := 7 }

/-- A state with slot 0 ACTIVE, its module of the given kind. -/
def active (kind : Kind) : State :=
  withSlot (fun c =>
    { c with
      state := .active, contacts := ⟨true, true⟩, identity := identity kind [.v3v3], switchClass := some .v3v3,
      resetAsserted := false })

/-- A state with probing progress of slot 0. -/
def probing (p : Probing) : State := withSlot (fun c => { c with state := .probing, probing := some p })

/-- A state with a timer of slot 0 running. -/
def timed (x : SlotState) (k : TimerKind) : State := withSlot (fun c => { c with state := x, timer := .running k 1 })

/-- A LIVE entry of slot 0 over granules 16 and 17. -/
def live : Entry :=
  { Entry.free with state := .live, firstGranule := 16, granuleCount := 2, width := .word, boundEpoch := some 7 }

/-- A state with slot 0 ACTIVE and handle 3 holding an entry; aperture space is enabled at region 4. -/
def holding (e : Entry) : State :=
  { (active .function).setEntry 3 e with
    port := { location := 0, region := 4, enable := true, configRefused := false } }

/-- The first address of the entry's aperture. -/
def inside : Word := 0x40010000

/-- A state with a command of the given code and argument words in execution. -/
def executing (code : BitVec 4) (args : Quad Word) (s : State) : State :=
  { s with command := { s.command with executing := some { code := code, args := args } } }

/-- A target of handle 3. -/
def target (size : Size) : Target :=
  { handle := 3, space := .main, moduleAddress := 0, width := .word, timingClass := 0, size := size }

/-- A queue item of handle 3. -/
def item : QueueItem := { target := target .two, systemAddress := inside, data := 0x1234 }

/-- A held read of handle 3 in a state. -/
def held (x : HeldState) : HeldRead := { target := target .four, systemAddress := inside, state := x }

/-- A two-cycle access in progress. -/
def access (source : AccessSource) (d : Direction) (phase : Phase) (index : Nat) : BusAccess :=
  { source := source, direction := d, target := target .four, data := 0, plan := cyclePlan (target .four) false,
    index := index, phase := phase, periods := 2, profile := Profile.initial, waitLimit := 32000 }

/-- A state whose sequencer 0 has an access in progress and a wait timer. -/
def busy (a : BusAccess) (w : Option Nat) (s : State) : State :=
  s.setSequencer 0 { Sequencer.initial with access := some a, waitTimer := w }

/-- A state with channel 0 changed. -/
def withChannel (s : State) (f : Channel → Channel) : State := s.setChannel 0 (f Channel.initial)

/-- A unit in progress. -/
def unit (half : Half) (begun : Bool) : UnitInProgress :=
  { half := half, target := target .two, memoryAddress := 0x1000, data := 0, moduleBegun := begun }

/-- A memory access of a channel. -/
def memoryAccess (d : Direction) (retries : Nat) : MemoryAccess :=
  { address := 0x1000, size := .two, direction := d, data := 0, retries := retries }

/-- Slot 0's lines with some asserted. -/
def lines (powerGood overcurrent ready alert request : Bool) : Lines :=
  Lines.quiet.set 0 ⟨powerGood, overcurrent, ready, alert, request, false⟩

/-- A state with the event unit changed. -/
def withEvents (f : EventUnit → EventUnit) : State := State.reset.setEvents (f EventUnit.initial)

/-- An outcome that is a next state with a property. -/
def ends (p : State → Bool) (r : Result) : Bool :=
  match r with
  | .next t => p t
  | .fault _ => false
  | .refused _ => false

/-! ## Well-formedness -/

theorem test_wf_slot_request_code : Instr.wf (.badRequest 0 2) = false := by decide
theorem test_wf_slot_request_class : Instr.wf (.badRequest 0 0x301) = false ∧ Instr.wf (.badRequest 0 0x401) = true := by
  decide
theorem test_wf_slot_request_unused : Instr.wf (.badRequest 0 0) = true ∧ Instr.wf (.badRequest 3 15) = true := by decide
theorem test_wf_channel_request : Instr.wf (.channelBadRequest 0 7) = false := by decide
theorem test_wf_channel_request_unused :
    Instr.wf (.channelBadRequest 0 0) = true ∧ Instr.wf (.channelBadRequest 0 8) = true := by decide
theorem test_wf_window_offset :
    Instr.wf (.controlWindowWrite 2 0 Lines.quiet) = false ∧ Instr.wf (.controlWindowWrite 4 0 Lines.quiet) = true := by
  decide
theorem test_wf_misaligned_access :
    Instr.wf (.controlWindowMisaligned ⟨.read, 0xFFF00004, .four, 0⟩ Lines.quiet) = false ∧
    Instr.wf (.controlWindowMisaligned ⟨.read, 0xFFF00004, .two, 0⟩ Lines.quiet) = true ∧
    Instr.wf (.controlWindowMisaligned ⟨.read, 0xFFF00006, .four, 0⟩ Lines.quiet) = true := by decide
theorem test_wf_others : Instr.wf .softReset = true ∧ Instr.wf (.probe 1) = true := by decide

/-! ## Single steps -/

theorem test_contact_closes :
    ends (fun t => (t.slot 0).state = .settling && t.events.isSet (Flag.presence 0))
      (step { State.reset with pending := [.presenceChange 0 .a] }) = true := by decide
theorem test_third_round_disagrees :
    ends (fun t => (t.slot 0).probing == some { round := 4, codes := [9, 6, 15], lowSample := none })
      (exec (.identificationRoundEnd 0 true true)
        (probing { round := 3, codes := [9, 6], lowSample := some (true, true) })) = true := by decide
theorem test_supply_out_of_set :
    ends (fun t => (t.slot 0).lastResult = .badSupply && (t.slot 0).badSupply && t.events.isSet (Flag.badSupply 0))
      (exec (.supply 0 .v5v0 Lines.quiet)
        (withSlot (fun c => { c with state := .identified, identity := identity .memory [.v3v3] }))) = true := by decide
theorem test_create_in_table :
    ends (fun t => (t.entry 5).state = .staged && t.command.resultCode = .ok && t.command.results.at0 == 5)
      (exec .create (executing 1 ⟨0x00100405, 2, 0, 0⟩ State.reset)) = true := by decide
theorem test_create_overlap :
    ends (fun t => t.command.resultCode = .overlap && t.command.results.at0 == 3 && t.command.results.at1 == 1)
      (exec .create (executing 1 ⟨0x00110405, 2, 0, 0⟩ (holding live))) = true := by decide
theorem test_write_is_posted :
    ends (fun t => t.answer == some .ok && (t.postingUnit 0).headInProgress && (t.entry 3).inFlight == 1)
      (exec (.apertureWrite 0x40010002 .two 0xABCD0000 Lines.quiet) (holding live)) = true := by decide
theorem test_write_takes_its_lanes :
    ends (fun t => (t.postingUnit 0).queue.map (fun x => x.data) == [0xABCD])
      (exec (.apertureWrite 0x40010002 .two 0xABCD0000 Lines.quiet) (holding live)) = true := by decide
theorem test_read_is_held :
    ends (fun t => t.answer == some .retry && (t.postingUnit 0).holder == some (held .issued))
      (exec (.apertureRead inside .four Lines.quiet) (holding live)) = true := by decide
theorem test_ready_read_is_collected :
    ends (fun t => t.answer == some (.okData [(0, 0x44), (1, 0x33), (2, 0x22), (3, 0x11)]) &&
        (t.postingUnit 0).holder == none)
      (exec (.apertureRead inside .four Lines.quiet)
        ((holding { live with inFlight := 1 }).setPosting 0
          { PostingUnit.initial with holder := some (held (.ready 0x11223344)), collectionTimer := some 1 })) = true := by
  decide
theorem test_unmapped_is_offered :
    ends (fun t => t.answer == some (.error .unmapped) && t.events.fault.valid && t.events.isSet Flag.accessFault)
      (exec (.apertureRead 0x40000000 .one Lines.quiet) (holding live)) = true := by decide
theorem test_status_word_after_power_up :
    (active .memory).readRegister (.slotStatus 0) = 0x000000B8 ∧
    (active .memory).readRegister (.slotIdentity 0) = 0x00072123 := by decide
theorem test_argument_word_reads_back :
    ends (fun t => t.readRegister (.argument 2) == 0xDEADBEEF)
      (exec (.controlWindowWrite 0x048 0xDEADBEEF Lines.quiet) State.reset) = true := by decide
theorem test_wrapping_plan :
    (cyclePlan { target .four with moduleAddress := 67108862 } true).map (fun c => c.address) = [67108862, 0] := by
  decide
theorem test_odd_address_runs_byte_cycles :
    (cyclePlan { target .two with moduleAddress := 1 } true).map (fun c => (c.address, c.isWord)) =
      [(1, false), (2, false)] := by decide
theorem test_wait_is_not_watched_in_setup (waiting : Bool) (data : BitVec 16) :
    exec (.waitSample 0 waiting data) (busy (access .headWrite .write .setup 0) none State.reset) =
      .next (busy (access .headWrite .write .setup 0) none State.reset) := by
  cases waiting <;> rfl
theorem test_record_keeps_its_handle_when_the_entry_is_freed :
    let bound := withChannel State.reset (fun c => { c with bound := some 3, recordHandle := 3 })
    bound.readRegister (.recordConfiguration 0) = 0x23 ∧
      (bound.unbindWhere (fun h => h == 3)).readRegister (.recordConfiguration 0) = 0x03 := by decide
theorem test_record_shows_no_handle_for_no_entry :
    ends (fun t => t.readRegister (.recordConfiguration 0) == 0x100)
      (exec (.configure 0)
        { State.reset with settings := State.reset.settings.set 0 ⟨0x107, 0, 0, 0⟩ }) = true := by decide
theorem test_arm_of_an_unbound_channel :
    ends (fun t => (t.channel 0).lastResult == .notLive) (exec (.arm 0 Lines.quiet) State.reset) = true := by decide
theorem test_257th_retry_aborts :
    ends (fun t => (t.channel 0).state == .aborted && (t.channel 0).abortCause == some .memoryBusy)
      (exec (.memoryAnswer 0 .retry Lines.quiet)
        ((withChannel State.reset (fun c => { c with state := .running, unit := some (unit .memoryHalf false) })).setMemory
          0 (some (memoryAccess .read 256)))) = true := by decide
theorem test_pulse_begins_with_its_event :
    ends (fun t => t.events.output && t.events.pulsesOwed == 1 && t.events.pulsePhase == .inPulse 200)
      (exec (.forceWordWrite .system 3)
        (withEvents (fun u => { u with interruptMode := .pulse, enables := { u.enables with system := 7 } }))) = true := by
  decide

/-! ## Hypotheses that can be met, one theorem per obligation and one clause per case

Where an obligation's hypotheses speak of several blocks, the theorem gives each block's part, and the two theorems here
say that the parts stand together in one state. -/

theorem test_a_command_stands_beside_any_state (code : BitVec 4) (args : Quad Word) (s : State) :
    (executing code args s).command.executing = some { code := code, args := args } ∧
    (∀ h, (executing code args s).entry h = s.entry h) ∧ (∀ i, (executing code args s).slot i = s.slot i) ∧
    (∀ c, (executing code args s).channel c = s.channel c) ∧ (executing code args s).port = s.port :=
  ⟨rfl, fun _ => rfl, fun _ => rfl, fun _ => rfl, rfl⟩

theorem test_work_stands_beside_any_entry (a : BusAccess) (w : Option Nat) (p : PostingUnit) (f : Channel → Channel)
    (m : Option MemoryAccess) (s : State) :
    let t := busy a w (((withChannel s f).setPosting 0 p).setMemory 0 m)
    (t.sequencer 0).access = some a ∧ (t.sequencer 0).waitTimer = w ∧ t.postingUnit 0 = p ∧
    t.channel 0 = f Channel.initial ∧ t.memoryRecord 0 = m ∧ (∀ h, t.entry h = s.entry h) ∧
    (∀ i, t.slot i = s.slot i) ∧ t.port = s.port :=
  ⟨rfl, rfl, rfl, rfl, rfl, fun _ => rfl, fun _ => rfl, rfl⟩

theorem test_meets_StepRunsFrontCommand : ({ State.reset with pending := [.pulseEnd] } : State).pending = [.pulseEnd] := rfl

theorem test_meets_EmptyQueueStepIsOneClockPeriod :
    State.reset.pending = [] ∧ (State.reset.sequencer 0).access = none ∧
    (∃ a, ((busy (access .headWrite .write .setup 0) none State.reset).sequencer 0).access = some a ∧ a.phase = .setup ∧
      1 < a.periods) ∧
    (∃ a, ((busy { access .headWrite .write .setup 0 with periods := 1 } none State.reset).sequencer 0).access = some a ∧
      a.phase = .setup ∧ a.periods ≤ 1) ∧
    (∃ a, ((busy (access .headWrite .write .hold 0) none State.reset).sequencer 0).access = some a ∧ a.phase ≠ .setup) := by
  refine ⟨rfl, rfl, ⟨_, rfl, rfl, by decide⟩, ⟨_, rfl, rfl, by decide⟩, ⟨_, rfl, by decide⟩⟩

theorem test_meets_PowerOnResetTakesStrapsAndContacts :
    ((Quad.all (Contacts.mk false false)).get 0).a = false ∧ ((Quad.all (Contacts.mk false false)).get 0).b = false ∧
    ((Quad.all (Contacts.mk true false)).get 0).a = true ∧ ((Quad.all (Contacts.mk false true)).get 3).b = true := by
  decide

theorem test_meets_SoftResetKeepsPortAndUnpoweredSlots :
    ((active .memory).slot 0).state.powered = true ∧ ((inState .faulted).slot 0).state.powered = true ∧
    ((inState .identified).slot 0).state.powered = false := by decide

theorem test_meets_ChannelClearAbandonsHalvesAndSparesSystemAccesses :
    (State.reset.sequencer 0).access = none ∧
    (access .headWrite .write .setup 0).source.isChannel = false ∧
    (access (.channelHalf 2) .read .setup 0).source.isChannel = true ∧
    ((busy (access (.channelHalf 2) .read .setup 0) none State.reset).postingUnit 0).offered = none ∧
    (((busy (access (.channelHalf 2) .read .setup 0) none State.reset).setPosting 0
      { PostingUnit.initial with queue := [item] }).postingUnit 0).offered = some (.headWrite item) ∧
    (((busy (access (.channelHalf 2) .read .setup 0) none State.reset).setPosting 0
      { PostingUnit.initial with holder := some (held (.waiting 0)) }).postingUnit 0).offered =
        some (.heldRead (held (.waiting 0))) := by decide

theorem test_meets_PresenceChangeOutsideActive :
    (State.reset.slot 0).state ≠ .active ∧
    ((withSlot (fun c => { c with contacts := ⟨true, false⟩ })).slot 0).contacts.toggle .a = ⟨false, false⟩ ∧
    (State.reset.slot 0).contacts.toggle .b = ⟨false, true⟩ := by decide

theorem test_meets_SessionEndReachesEveryBlock :
    ((active .memory).slot 0).state = .active ∧
    (((active .memory).setPosting 0 { PostingUnit.initial with queue := [item] }).postingUnit 0).queue ≠ [] ∧
    (((holding { live with state := .fenced, inFlight := 1 }).entry 3).slot = 0 ∧
      ((holding { live with state := .fenced, inFlight := 1 }).entry 3).state = .fenced ∧
      ((holding live).slot 0).state = .active) ∧
    ((withChannel (holding live) (fun c => { c with state := .armed, bound := some 3 })).channelSlot 0 = some 0 ∧
      ((withChannel (holding live) (fun c => { c with state := .armed, bound := some 3 })).channel 0).isActive = true) := by
  decide

theorem test_meets_SettleExpiryDecidesByContacts :
    ((timed .settling .settle).slot 0).timerIs .settle = true ∧
    (∃ s : State, (s.slot 0).timerIs .settle = true ∧ (s.slot 0).contacts.a = true ∧ (s.slot 0).contacts.b = true) ∧
    ∃ s : State, (s.slot 0).timerIs .settle = true ∧ (s.slot 0).contacts.a ≠ (s.slot 0).contacts.b := by
  refine ⟨by decide, ⟨withSlot (fun c => { c with timer := .running .settle 1, contacts := ⟨true, true⟩ }), by decide⟩,
    ⟨withSlot (fun c => { c with timer := .running .settle 1, contacts := ⟨false, true⟩ }), by decide⟩⟩

theorem test_meets_ProbeCodesDecideKindAndSupplySet :
    probeTable 11 = none ∧ probeTable 10 = some (.memory, [.v1v8, .v3v3]) := by decide

theorem test_meets_IdentificationRoundsEndByAgreement :
    ((probing { round := 1, codes := [], lowSample := none }).slot 0).probing =
      some { round := 1, codes := [], lowSample := none } ∧
    roundCode false false true false = 2 ∧ [2].getLast? = some 2 ∧ probeTable 2 = some (.memory, [.v3v3]) ∧
    roundCode true false true true = 11 ∧ probeTable 11 = none ∧ ([] : List Nat).getLast? ≠ some 2 ∧
    [2, 9, 2].getLast? ≠ some (roundCode true true true true) := by decide

theorem test_meets_SupplyRefusals :
    ((inState .empty).slot 0).state = .empty ∧ ((inState .probing).slot 0).state = .probing ∧
    ((active .memory).slot 0).state.powered = true ∧
    ((withSlot (fun c => { c with state := .identified, identity := identity .memory [.v3v3] })).slot 0).identity.accepts
      .v1v8 = false := by decide

theorem test_meets_SupplyTurnsTheSwitchOn :
    ((withSlot (fun c => { c with state := .identified, identity := identity .memory [.v3v3] })).slot 0).identity.accepts
      .v3v3 = true ∧
    (((lines false false false false false).get 0).overcurrent = false ∧
      ((lines false false false false false).get 0).powerGood = false) ∧
    (((lines true false false false false).get 0).overcurrent = false ∧
      ((lines true false false false false).get 0).powerGood = true) ∧
    ((lines true true false false false).get 0).overcurrent = true := by decide

theorem test_meets_SupplyOffAndProbeByState :
    ((inState .powering).slot 0).state = .powering ∧ ((inState .faulted).slot 0).state = .faulted ∧
    ((inState .unrecognized).slot 0).state.powered = false ∧ ((inState .identified).slot 0).state = .identified ∧
    ((inState .misseated).slot 0).state = .misseated ∧ ((inState .resetting).slot 0).state.powered = true := by decide

theorem test_meets_UnusedRequestsLeaveOnlyTheirResult :
    badSlotRequest 3 = true ∧ badSlotRequest 0x701 = true ∧ badChannelRequest 8 = true ∧ badChannelRequest 0 = true := by
  decide

theorem test_meets_PowerUpReachesActive :
    ((inState .powering).slot 0).state = .powering ∧ ((timed .resetting .resetPulse).slot 0).timerIs .resetPulse = true ∧
    ((lines false false false true false).get 0).ready = false ∧
    ((lines false false true true false).get 0).ready = true ∧
    ((timed .resetting .readyLimit).slot 0).timerIs .readyLimit = true ∧
    (((lines false false true true false).get 0).alert = true ∧ State.reset.events.alertSources.get 0 = false ∧
      (identity .function [.v3v3]).kind = some .function) := by decide

theorem test_meets_FaultsOutsideActive :
    (((timed .powering .powerGoodLimit).slot 0).state ≠ .active ∧
      ((timed .powering .powerGoodLimit).slot 0).timerIs .powerGoodLimit = true) ∧
    (((timed .resetting .readyLimit).slot 0).state = .resetting ∧
      ((timed .resetting .readyLimit).slot 0).timerIs .readyLimit = true) ∧
    ((inState .faulted).slot 0).state.switchOn = false := by decide

theorem test_meets_AlertAndChangeArePassedOnInActive :
    (((active .function).slot 0).state = .active ∧ ((active .function).slot 0).identity.kind = some .function) ∧
    (((active .memory).slot 0).state = .active ∧ ((active .memory).slot 0).identity.kind = some .memory) ∧
    (State.reset.slot 0).state ≠ .active ∧ (active .function).events.alertSources.get 0 = false ∧
    ((withEvents (fun u => { u with alertSources := u.alertSources.set 0 true })).events.alertSources.get 0 = true) := by
  decide

theorem test_meets_CommandWordIsAcceptedWhileIdle :
    State.reset.command.executing = none ∧
    (executing 1 (Quad.all 0) State.reset).command.executing = some { code := 1, args := Quad.all 0 } := by decide

theorem test_meets_CompletionsWriteResultsAndRaiseCommandDone :
    (executing 0 (Quad.all 0) State.reset).command.executing = some { code := 0, args := Quad.all 0 } ∧
    (0 : BitVec 4).toNat = 0 ∧ 9 ≤ (9 : BitVec 4).toNat ∧ 9 ≤ (15 : BitVec 4).toNat := by decide

theorem test_meets_CreateChecksInOrder :
    ((createArgs ⟨0x00000300, 1, 0, 0⟩).space = none ∧ (createArgs ⟨0x00000C00, 1, 0, 0⟩).width = none ∧
      (createArgs ⟨0x00008000, 1, 0, 0⟩).access = none ∧ (createArgs ⟨0x00000200, 1, 65536, 0⟩).space = some .port ∧
      65535 < (createArgs ⟨0x00000200, 1, 65536, 0⟩).moduleOffset) ∧
    ((createArgs ⟨0, 0, 0, 0⟩).granuleCount = 0 ∧ 65536 < (createArgs ⟨0, 65537, 0, 0⟩).granuleCount ∧
      (createArgs ⟨0xFFFF0000, 2, 0, 0⟩).firstGranule + (createArgs ⟨0xFFFF0000, 2, 0, 0⟩).granuleCount = 65537) ∧
    ((createArgs ⟨0x00000200, 17, 0, 0⟩).space = some .port ∧ (createArgs ⟨0x00000200, 17, 0, 0⟩).granuleCount = 17) ∧
    ((createArgs ⟨0xFFFF0003, 1, 0, 0⟩).handle = 3 ∧ ((holding live).entry 3).state ≠ .free) ∧
    (((holding live).entry 0).state = .free ∧ (holding live).conflicts 17 1 = [3] ∧
      (holding live).conflicts 18 1 = [] ∧ (holding live).conflicts 0 16 = []) := by
  decide

theorem test_meets_ActivateAndRebindBindToTheSession :
    argHandle ⟨3, 0, 0, 0⟩ = 3 ∧ ((holding live).entry 3).state ≠ .staged ∧
    (((holding { live with state := .staged, slot := 1 }).entry 3).state = .staged ∧
      ((holding { live with state := .staged, slot := 1 }).slot 1).state ≠ .active) ∧
    ((((active .memory).setEntry 3 { live with state := .staged, space := .port }).entry 3).space = .port ∧
      ((active .memory).slot 0).identity.kind = some .memory) ∧
    (((holding { live with state := .staged }).entry 3).state = .staged ∧
      ((holding { live with state := .staged }).slot 0).state = .active) ∧
    (((holding { live with state := .orphaned }).entry 3).state = .orphaned ∧
      ((holding { live with state := .orphaned }).entry 3).boundEpoch = some 7) := by decide

theorem test_meets_AmendWritesTheSelectedFields :
    ((holding live).entry 0).state = .free ∧
    ((amendArgs ⟨0x3003, 0, 0, 0⟩).cookieOp = none ∧ (amendArgs ⟨0x30203, 0, 0, 0⟩).width = none ∧
      (amendArgs ⟨0x2000803, 0, 0, 0⟩).access = none) ∧
    (((holding { live with space := .port }).entry 3).space = .port ∧
      65535 < (amendArgs ⟨0x103, 0, 65536, 0⟩).moduleOffset) ∧
    ((amendArgs ⟨0x1000803, 0, 0, 0⟩).selectAccess = true ∧ (amendArgs ⟨0x1000803, 0, 0, 0⟩).access = some .readOnly ∧
      ((withChannel (holding live)
        (fun c => { c with state := .paused, bound := some 3, direction := .fromMemory })).channel 0).isActive = true) ∧
    (amendArgs ⟨0x1F03, 0, 8, 9⟩).cookieOp = some .set := by decide

theorem test_meets_RetireFreesOrFences :
    (((holding live).entry 3).state = .live ∧ ((holding live).entry 3).inFlight = 0 ∧
      ∀ c, ¬(((holding live).channel c).bound = some 3 ∧ ((holding live).channel c).isActive = true)) ∧
    ((holding { live with inFlight := 1 }).entry 3).inFlight ≠ 0 ∧
    ((holding { live with state := .fenced, inFlight := 1 }).entry 3).state = .fenced ∧
    (((withChannel (holding live) (fun c => { c with state := .armed, bound := some 3 })).channel 0).bound = some 3 ∧
      ((withChannel (holding live) (fun c => { c with state := .armed, bound := some 3 })).channel 0).isActive = true) := by
  decide

theorem test_meets_QueryReportsTheEntry :
    (executing 6 ⟨0x103, 0, 0, 0⟩ (holding live)).command.executing = some { code := 6, args := ⟨0x103, 0, 0, 0⟩ } ∧
    ((holding { live with granuleCount := 65536, inFlight := 9, moduleOffset := 67108863 }).entry 3).inFlight ≤ 9 ∧
    ((holding { live with granuleCount := 65536, inFlight := 9, moduleOffset := 67108863 }).entry 3).granuleCount ≤ 65536 ∧
    ((holding { live with granuleCount := 65536, inFlight := 9, moduleOffset := 67108863 }).entry 3).moduleOffset <
      67108864 := by decide

theorem test_meets_FindReportsTheCoveringEntry :
    (0x3FFFFFFF : Word).toNat < 268435456 * (holding live).port.region.val ∧
    268435456 * (holding live).port.region.val + 268435456 ≤ (0x50000000 : Word).toNat ∧
    ((holding live).entry 3).covers 16 = true ∧ (∀ k, k < 3 → ((holding live).entry k).covers 16 = false) ∧
    (∀ h : Handle, ((holding live).entry h).covers 18 = false) ∧
    (holding live).covering 17 = some 3 ∧ (holding live).covering 15 = none := by decide

theorem test_meets_SweepFreesOrFencesTheSlot :
    ((withChannel (holding live) (fun c => { c with state := .armed, bound := some 3 })).channel 0).isActive = true ∧
    (∀ c, ¬((holding live).channel c).isActive = true) ∧ ((holding live).entry 3).slot = quarter (bits 0 1 0) := by
  decide

theorem test_meets_BaseWriteNeedsAnEmptyTable :
    (∀ h, (State.reset.entry h).state = .free) ∧ (0x104 : Word).toNat % 16 = (holding live).port.region.val ∧
    ((holding live).entry 3).state ≠ .free ∧ (0x105 : Word).toNat % 16 ≠ (holding live).port.region.val := by
  decide

theorem test_meets_WindowWritesAreTheRegistersCommands :
    (3 : Word).getLsbD 0 = true ∧ ((2 : Word).getLsbD 0 = false ∧ (2 : Word).getLsbD 1 = true) ∧
    (4 : Word).getLsbD 1 = false ∧ (bits 0x301 3 0 = 1 ∧ bits 0x301 10 8 = 3) ∧ (bits 0x401 3 0 = 1 ∧ 4 ≤ bits 0x401 10 8) ∧
    bits 0xF 3 0 = 15 := by decide

theorem test_meets_WindowLocationsReadAndWrite :
    (0x001 : BitVec 12).toNat % 4 ≠ 0 ∧ registerAt (0x014 / 4) = none ∧ registerAt (0xFFC / 4) = none ∧
    registerAt (0x310 / 4) = some (.event .system) ∧ registerAt (0x37C / 4) = some .faultRelease ∧
    (registerAt 5 = none ∧ registerAt 22 = none ∧ registerAt 71 = none ∧ registerAt 141 = none ∧ registerAt 197 = none ∧
      registerAt 213 = none ∧ registerAt 218 = none ∧ registerAt 224 = none ∧ registerAt 1023 = none) := by decide

theorem test_meets_AccessesRefusedBeforeLookup :
    (¬(0x50000000 : Word).toNat < 268435456 * 4 + 268435456 ∧ (holding live).port.enable = true) ∧
    State.reset.port.enable = false ∧
    (4293918720 ≤ (0xFFF00FFE : Word).toNat ∧ (0xFFF00FFE : Word).toNat < 4293918720 + 4096 ∧
      (0xFFF00FFE : Word).toNat % 4 ≠ 0) ∧
    (268435456 * 4 ≤ (0x40000001 : Word).toNat ∧ (0x40000001 : Word).toNat % Size.two.bytes ≠ 0) := by decide

theorem test_meets_AccessesRefusedAtLookupAreOffered :
    (holding live).looksUp ⟨.read, 0x40012000, .one, 0⟩ ∧
    (holding live).coveringEntry ⟨.read, 0x40012000, .one, 0⟩ = none ∧
    ((holding { live with state := .staged }).coveringEntry ⟨.read, inside, .four, 0⟩ = some 3 ∧
      ((holding { live with state := .staged }).postingUnit 0).holder = none) ∧
    (holding { live with state := .fenced }).coveringEntry ⟨.write, inside, .four, 0⟩ = some 3 ∧
    (holding { live with state := .orphaned }).coveringEntry ⟨.write, 0x40011FFC, .four, 0⟩ = some 3 := by decide

theorem test_meets_WritesThroughLiveEntries :
    ((holding live).looksUp ⟨.write, inside, .four, 0⟩ ∧ (holding live).coveringEntry ⟨.write, inside, .four, 0⟩ = some 3 ∧
      ((holding live).entry 3).access = .readWrite ∧ ((holding live).postingUnit 0).queue = [] ∧
      ((holding live).postingUnit 0).holder = none ∧ ((holding live).sequencer 0).access = none ∧
      (holding live).dueChannel 0 = none) ∧
    ((holding { live with access := .readOnly }).entry 3).access = .readOnly ∧
    (((holding live).setPosting 0 { PostingUnit.initial with queue := List.replicate 8 item }).postingUnit 0).queue.length
      = 8 ∧
    ((busy (access .headWrite .write .setup 0) none (holding live)).sequencer 0).access ≠ none ∧
    ((((holding { live with inFlight := 1 }).setPosting 0
        { PostingUnit.initial with holder := some (held .failed), collectionTimer := some 1 }).postingUnit 0).holder =
          some (held .failed) ∧
      (held .failed).state = .failed ∧ (held (.ready 7)).state = .ready 7 ∧
      ¬(held .failed).matchedBy ⟨.write, inside, .four, 0⟩) := by decide

theorem test_meets_ReadsThroughLiveEntries :
    ((holding live).coveringEntry ⟨.read, inside, .four, 0⟩ = some 3 ∧ ((holding live).postingUnit 0).holder = none ∧
      (holding live).dueChannel 0 = none) ∧
    ¬(held .issued).matchedBy ⟨.read, inside, .two, 0⟩ ∧ ¬(held .issued).matchedBy ⟨.read, 0x40010004, .four, 0⟩ := by
  decide

theorem test_meets_MatchingReadsCollectTheHeldRead :
    (held (.waiting 2)).matchedBy ⟨.read, inside, .four, 0⟩ ∧ (held .issued).matchedBy ⟨.read, inside, .four, 0⟩ ∧
    (held (.ready 5)).matchedBy ⟨.read, inside, .four, 0⟩ ∧ (held .failed).matchedBy ⟨.read, inside, .four, 0⟩ ∧
    (((holding { live with state := .fenced, inFlight := 1 }).setPosting 0
      { PostingUnit.initial with holder := some (held .failed) }).postingUnit 0).holder = some (held .failed) ∧
    (holding { live with state := .fenced, inFlight := 1 }).coveringEntry ⟨.read, inside, .four, 0⟩ = some 3 := by
  decide

theorem test_meets_FinishingWorkDrainsFencedEntries :
    ((holding live).entry 3).state ≠ .fenced ∧
    ((holding { live with state := .fenced, inFlight := 1 }).entry 3).inFlight = 1 ∧
    1 < ((holding { live with state := .fenced, inFlight := 2 }).entry 3).inFlight := by decide

theorem test_meets_ChoiceServesTheWaitingSourceByPreference :
    ((busy (access .headWrite .write .setup 0) none State.reset).sequencer 0).access ≠ none ∧
    ((State.reset.postingUnit 0).offered = none ∧ ∀ c, (State.reset.channel c).unit = none) ∧
    ({ PostingUnit.initial with queue := [item] } : PostingUnit).offered = some (.headWrite item) ∧
    ({ PostingUnit.initial with holder := some (held (.waiting 0)) } : PostingUnit).offered =
      some (.heldRead (held (.waiting 0))) ∧
    (({ PostingUnit.initial with queue := [item], holder := some (held (.waiting 1)) } : PostingUnit).offered =
        some (.headWrite item) ∧
      ({ PostingUnit.initial with queue := [item], holder := some (held .issued) } : PostingUnit).offered = none ∧
      ({ PostingUnit.initial with queue := [item], holder := some (held .failed) } : PostingUnit).offered =
        some (.headWrite item) ∧
      ({ PostingUnit.initial with queue := [item], holder := some (held (.ready 1)) } : PostingUnit).offered =
        some (.headWrite item)) ∧
    ((withChannel (holding live)
        (fun c => { c with state := .running, bound := some 3, unit := some (unit .moduleHalf false) })).channelSlot 0 =
      some 0 ∧ State.reset.sequencer 0 = Sequencer.initial) := by decide

theorem test_meets_ModuleCyclesSampleAndAdvance :
    ((access .heldRead .read .strobe 0).plan[0]?).isSome = true ∧
    ((busy (access .heldRead .read .strobe 0) none State.reset).sequencer 0).waitTimer = none ∧
    ((busy (access .heldRead .read .strobe 0) (some 9) State.reset).sequencer 0).waitTimer = some 9 ∧
    (access .headWrite .write .strobe 0).phase = .strobe ∧ (access .headWrite .write .setup 0).phase ≠ .strobe ∧
    (access .headWrite .write .hold 0).phase = .hold ∧
    (access .headWrite .write .hold 0).index + 1 < (access .headWrite .write .hold 0).plan.length ∧
    (State.reset.sequencer 0).access = none ∧
    ((target .two).moduleAddress % 2 = 0 ∧ (target .two).width = .word ∧
      ¬({ target .four with moduleAddress := 67108863 }).moduleAddress % 2 = 0 ∧ (target .one).size = .one) := by decide

theorem test_meets_CompletionsReportToTheirSource :
    (access .headWrite .write .hold 1).phase = .hold ∧
    (access .headWrite .write .hold 1).index + 1 = (access .headWrite .write .hold 1).plan.length ∧
    ({ PostingUnit.initial with queue := [item] } : PostingUnit).queue = item :: [] ∧
    ({ PostingUnit.initial with holder := some (held .issued) } : PostingUnit).holder = some (held .issued) ∧
    ((withChannel State.reset (fun c => { c with unit := some (unit .moduleHalf true) })).channel 0).unit =
      some (unit .moduleHalf true) ∧
    (State.reset.port.blocksMaster 0x1000 = false ∧ State.reset.port.blocksMaster 0xFFF00FFF = true ∧
      State.reset.port.blocksMaster 0xFFF01000 = false) := by decide

theorem test_meets_TimersFailOrReleaseTheirAccess :
    ((busy (access .headWrite .write .strobe 1) (some 9) State.reset).sequencer 0).access =
      some (access .headWrite .write .strobe 1) ∧
    ((busy (access (.channelHalf 1) .read .strobe 0) (some 9) State.reset).sequencer 0).waitTimer = some 9 ∧
    (({ PostingUnit.initial with holder := some (held .failed), collectionTimer := some 4 } : PostingUnit).collectionTimer
      = some 4 ∧ (held .failed).state = .failed ∧ (held (.ready 1)).state = .ready 1) := by decide

theorem test_meets_UnitsStartWithTheirTranslation :
    ((withChannel (holding live) (fun c => { c with bound := some 3 })).channel 0).bound = some 3 ∧
    ((withChannel (holding live) (fun c => { c with bound := some 3, direction := .fromMemory })).channel 0).direction =
      .fromMemory ∧
    ((holding live).port.blocksMaster 0x1000 = false ∧ (holding live).port.blocksMaster 0x40000000 = true ∧
      (holding live).port.blocksMaster 0x4FFFFFFF = true ∧ (holding live).port.blocksMaster 0x50000000 = false) := by
  decide

theorem test_meets_UnitsEndInOrder :
    (((withChannel (holding live)
        (fun c => { c with state := .running, bound := some 3, currentCount := 2, stopPending := .pause })).channel 0).state
      = .running) ∧
    (1 < 2 ∧ ∀ m : Mode, ((withChannel (holding live)
        (fun c => { c with state := .running, bound := some 3, currentCount := 1, mode := m })).channel 0).mode = m) ∧
    (((lines false false false false true).get ((holding live).entry 3).slot).request = true) := by
  refine ⟨by decide, ⟨by decide, fun m => by cases m <;> rfl⟩, by decide⟩

theorem test_meets_ConfigureLoadsTheSettingWords :
    bits 0x600 10 9 = 3 ∧ (bits 0x400 10 9 = 2 ∧ (0x400 : Word).getLsbD 5 = false) ∧
    (bits 0x23 4 0 = (3 : Handle).val ∧ (0x23 : Word).getLsbD 5 = true) ∧
    ((holding live).entry 3).state ≠ .free ∧ (State.reset.entry 3).state = .free ∧
    (State.reset.channel 0).state = .idle ∧ bits 0x10000 15 0 = 0 := by decide

theorem test_meets_ArmChecksInOrder :
    ((withChannel State.reset (fun c => { c with state := .done })).channel 0).state ≠ .idle ∧
    (State.reset.channel 0).bound = none ∧
    (((withChannel (holding live) (fun c => { c with bound := some 3 })).channel 0).bound = some 3 ∧
      ((holding live).entry 3).state = .live ∧ ((holding live).slot 0).identity.kind = some .function) ∧
    ((holding { live with access := .readOnly }).entry 3).access = .readOnly ∧
    ((active .memory).slot 0).identity.kind = some .memory ∧
    (((withChannel (holding live) (fun c => { c with bound := some 3, mode := .demand, mask := false })).channel 0).mode =
      .demand ∧ ((lines false false false false true).get 0).request = true) := by decide

theorem test_meets_StartBeginsThePassAndUnmaskClearsTheMask :
    ((withChannel State.reset (fun c => { c with state := .armed, mode := .block })).channel 0).mode = .block ∧
    (State.reset.channel 0).state ≠ .armed ∧
    ((withChannel (holding live) (fun c => { c with state := .armed, bound := some 3, mode := .demand })).requestLevel 0
      (lines false false false false true) = true) ∧
    (State.reset.channel 0).mode ≠ .demand := by decide

theorem test_meets_PauseCancelAndResumeByState :
    (∀ x : ChannelState, ((withChannel State.reset (fun c => { c with state := x })).channel 0).state = x) ∧
    ((withChannel State.reset (fun c => { c with unit := some (unit .memoryHalf false) })).channel 0).unit ≠ none ∧
    (∀ r : ResumeState, ((withChannel State.reset (fun c => { c with state := .paused, resumeState := some r })).channel
      0).resumeState = some r) ∧
    (withChannel (holding live) (fun c => { c with bound := some 3 })).requestLevel 0 (lines false false false false true) =
      true := by
  refine ⟨fun x => rfl, by decide, fun r => rfl, by decide⟩

theorem test_meets_AssertionsAreTakenByTheSlotsChannels :
    ((withChannel (holding live) (fun c => { c with bound := some 3, mask := false, state := .armed })).channelSlot 0 =
      some 0) ∧
    (State.reset.channel 0).mask = true ∧
    ((withChannel (holding live)
      (fun c => { c with bound := some 3, mask := false, state := .running, unit := some (unit .moduleHalf true) })).channel
        0).unit ≠ none ∧
    ((withChannel (holding live) (fun c =>
        { c with
          bound := some 3, mask := false, state := .armed, direction := .fromMemory
          currentAddress := 0x40000000 })).port.blocksMaster 0x40000000 = true) := by decide

theorem test_meets_MemoryAnswersEndOrRepeatTheHalf :
    State.reset.memoryRecord 0 = none ∧
    (State.reset.setMemory 0 (some (memoryAccess .read 255))).memoryRecord 0 = some (memoryAccess .read 255) ∧
    (memoryAccess .read 255).retries < 256 ∧ 256 ≤ (memoryAccess .read 256).retries ∧
    ((holding live).port.blocksMaster (memoryAccess .read 0).address = false ∧
      (holding live).port.blocksMaster 0x40000000 = true) ∧
    (memoryAccess .write 0).direction = .write ∧
    ((withChannel State.reset (fun c => { c with unit := some (unit .memoryHalf false) })).channel 0).unit =
      some (unit .memoryHalf false) := by decide

theorem test_meets_EventEnableAndForceWords :
    State.reset.events.clearMode = .readClears ∧
    (withEvents (fun u => { u with clearMode := .writeOneClears })).events.clearMode = .writeOneClears ∧
    ((Flag.readDiscarded 3).position < 10 ∧ (Flag.accessFault).position < 3 ∧
      (8 ≤ (Flag.channelDone 0).position ∧ (Flag.channelAbort 3).position = 15)) := by decide

theorem test_meets_EventControlAndInterruptPulses :
    (State.reset.events.interruptMode = .level ∧ (2 : Word).getLsbD 1 = true) ∧
    ((withEvents (fun u => { u with interruptMode := .pulse, pulsesOwed := 1 })).events.interruptMode = .pulse ∧
      0 < (withEvents (fun u => { u with interruptMode := .pulse, pulsesOwed := 1 })).events.pulsesOwed ∧
      (withEvents (fun u => { u with interruptMode := .pulse, pulsesOwed := 1 })).events.pulsePhase = .idle) ∧
    (withEvents (fun u => { u with interruptMode := .pulse, pulsePhase := .inPulse 200 })).events.pulsePhase =
      .inPulse 200 ∧
    (withEvents (fun u => { u with interruptMode := .pulse, pulsePhase := .inGap 200 })).events.pulsePhase = .inGap 200 ∧
    (∃ asserted : Bool, asserted = true ↔ ∃ g p, (State.reset.events.flags.get g).getLsbD p = true ∧
      (State.reset.events.enables.get g).getLsbD p = true) := by
  refine ⟨by decide, by decide, by decide, by decide, false, ?_⟩
  refine ⟨fun h => Bool.noConfusion h, ?_⟩
  have flags_clear : ∀ g, State.reset.events.flags.get g = 0 := by
    intro g
    cases g with
    | system => rfl
    | slot i => revert i; decide
  rintro ⟨g, p, h, _⟩
  rw [flags_clear g] at h
  simp at h

theorem test_meets_FaultRecordCapturesAndReleases :
    State.reset.events.fault.valid = false ∧
    (withEvents (fun u => { u with fault := { u.fault with valid := true } })).events.fault.valid = true := by decide

/-- A state that meets every invariant at once, with work in every block: a write in progress, a read held behind it, a
channel running and pulses owed. -/
def lawful : State :=
  let s := (((holding { live with inFlight := 2, used := true }).setPosting 0
    { PostingUnit.initial with queue := [item], headInProgress := true, holder := some (held (.waiting 1)) }).setSequencer 0
      { Sequencer.initial with access := some (access .headWrite .write .strobe 0), preference := .channel }).setChannel 1
        { Channel.initial with
          state := .running, bound := some 3, direction := .fromMemory, baseCount := 4, currentCount := 4, recordHandle := 3
          unit := some (unit .memoryHalf false) }
  (s.setMemory 1 (some (memoryAccess .read 256))).setEvents
    { EventUnit.initial with
      interruptMode := .pulse, output := true, pulsesOwed := 2, pulsePhase := .inPulse 200
      enables := { EventUnit.initial.enables with system := 7 } }

theorem test_meets_StepsKeepTheOutputLaw : lawful.events.OutputLaw := by decide
theorem test_meets_StepsKeepTheSlotLaw : lawful.SlotLaw := by decide
theorem test_meets_StepsKeepTheTableLaw : lawful.TableLaw := by decide
theorem test_meets_StepsKeepTheInFlightLaw : lawful.Coherent := by decide
theorem test_meets_StepsKeepThePostingLaw : lawful.PostingLaw := by decide
theorem test_meets_QueueAndHolderAreEmptyOutsideActive : lawful.Coherent ∧ lawful.PostingLaw := by decide
theorem test_meets_StepsKeepTheChannelLaws :
    lawful.ChannelLaw ∧ lawful.HalfLaw ∧ lawful.CountLaw ∧ lawful.RetryLaw := by
  refine ⟨by decide, ⟨by decide, ?_⟩, by decide, by decide⟩
  intro i c d h
  have none_runs : ∀ i, (lawful.sequencer i).runsHalf = none := by decide
  rw [none_runs i] at h
  cases h

end Sys2Proof.Tests
end

/-! The probe codes (R10, R12): which codes the table recognizes, what a supply set of the table is, and the code of a round
as a number of four bits. -/

namespace Sys2Proof.Machine

/-! ## The table of probe codes (R12) -/

/-- Only the codes 1 to 10 are recognized. -/
theorem probeTable_code_bounds {n : Nat} {m : Kind × List SupplyClass} (h : probeTable n = some m) : 1 ≤ n ∧ n ≤ 10 := by
  unfold probeTable at h
  split at h
  case h_11 => cases h
  all_goals decide

theorem probeTable_above_ten {n : Nat} (h : 11 ≤ n) : probeTable n = none := by
  cases entry : probeTable n with
  | none => rfl
  | some m =>
    obtain ⟨_, code_le_ten⟩ := probeTable_code_bounds entry
    omega

/-- A supply set of the table holds a class, and lists its classes in order and at most once: it is a sublist of all three. -/
theorem probeTable_supplySet {n : Nat} {kind : Kind} {set : List SupplyClass} (h : probeTable n = some (kind, set)) :
    set ≠ [] ∧ set.Sublist [.v1v8, .v3v3, .v5v0] := by
  obtain ⟨one_le, le_ten⟩ := probeTable_code_bounds h
  interval_cases n <;> cases h <;> decide

/-! ## The code of a round (R10) -/

theorem flagBit_eq_toNat (b : Bool) : flagBit b = b.toNat := by
  cases b <;> rfl

theorem roundCode_eq (k1Low k2Low k1High k2High : Bool) :
    roundCode k1Low k2Low k1High k2High =
      8 * k1Low.toNat + 4 * k2Low.toNat + 2 * k1High.toNat + k2High.toNat := by
  simp only [roundCode, flagBit_eq_toNat]

/-! ## The statement -/

/-- Settles O10: the rows of the table are read off, and the laws above give the codes past it, its supply sets and the
code of a round. -/
theorem probeCodesDecideKindAndSupplySet : Obligations.ProbeCodesDecideKindAndSupplySet :=
  ⟨rfl, rfl, rfl, rfl, rfl, rfl, rfl, rfl, rfl, rfl, rfl, fun _ => probeTable_above_ten,
    fun _ _ _ => probeTable_supplySet, roundCode_eq⟩

end Sys2Proof.Machine

/-! The command port and the lookup of the aperture table: what a write of the command word does (R64, R65), which entries
cover a granule and which of them a lookup finds (R43, R61), and the completion of FIND (R85). -/

namespace Sys2Proof.Machine

/-! ## The command word and the command status word (R64, R65) -/

theorem exec_commandAcceptance (s : State) (value : Word) :
    exec (.commandAcceptance value) s = .next ((s.writeCommand value).answered .ok) := rfl

theorem exec_commandStatusWrite (s : State) (value : Word) :
    exec (.commandStatusWrite value) s = .next ((s.writeCommandStatus value).answered .ok) := rfl

theorem State.writeCommand_idle (s : State) (value : Word) (idle : s.command.executing = none) :
    s.writeCommand value =
      { s with
        command :=
          { s.command with
            executing := some { code := commandCodeOf value, args := s.command.args }
            lastAccepted := some (commandCodeOf value), resultCode := .pending } } := by
  simp only [State.writeCommand, idle]

theorem State.writeCommand_busy (s : State) (value : Word) (e : Executing) (busy : s.command.executing = some e) :
    s.writeCommand value = { s with command := { s.command with overrun := true } } := by
  simp only [State.writeCommand, busy]

/-- OVERRUN stays exactly when it is set and position 1 of the status word is 0. -/
theorem State.writeCommandStatus_eq (s : State) (value : Word) :
    s.writeCommandStatus value =
      { s with command := { s.command with overrun := s.command.overrun && !value.getLsbD 1 } } := by
  unfold State.writeCommandStatus
  cases value.getLsbD 1 with
  | false => simp
  | true => simp

/-- Settles O19: an acceptance and a status write answer OK after the write of their word, and the laws above say what each
write does. -/
theorem commandWordIsAcceptedWhileIdle : Obligations.CommandWordIsAcceptedWhileIdle := by
  intro s value
  refine ⟨fun idle => ?accepted, fun e busy => ?dropped, ?status⟩
  case accepted =>
    rw [exec_commandAcceptance, s.writeCommand_idle value idle]
    rfl
  case dropped => rw [exec_commandAcceptance, s.writeCommand_busy value e busy]
  case status => rw [exec_commandStatusWrite, s.writeCommandStatus_eq value]

/-! ## Coverage and lookup (R43, R61) -/

theorem Entry.covers_iff (e : Entry) (granule : Nat) :
    e.covers granule = true ↔
      e.state ≠ .free ∧ e.firstGranule ≤ granule ∧ granule < e.firstGranule + e.granuleCount := by
  simp only [Entry.covers, Bool.and_eq_true, bne_iff_ne, decide_eq_true_eq]

theorem State.covering_eq_none_iff (s : State) (granule : Nat) :
    s.covering granule = none ↔ ∀ h, (s.entry h).covers granule = false := by
  unfold State.covering handles
  rw [← Fin.find?_eq_find?_finRange, Fin.find?_eq_none_iff]

/-- A lookup finds the lowest handle whose entry covers the granule. -/
theorem State.covering_eq_some_iff (s : State) (granule : Nat) (h : Handle) :
    s.covering granule = some h ↔
      (s.entry h).covers granule = true ∧ ∀ k, k < h → (s.entry k).covers granule = false := by
  unfold State.covering handles
  rw [← Fin.find?_eq_find?_finRange, Fin.find?_eq_some_iff]

/-! ## The completion of FIND (R85) -/

/-- The captured arguments of the command in execution, asked for under its own code. -/
theorem State.executingArgs_eq_some (s : State) (x : Executing) (code : BitVec 4) (running : s.command.executing = some x)
    (is_code : x.code = code) : s.executingArgs code = some x.args := by
  simp only [State.executingArgs, running, is_code, if_true]

theorem exec_find (s : State) (x : Executing) (running : s.command.executing = some x) (is_find : x.code = 7) :
    exec .find s = .next (s.completeFind x.args.at0) := by
  change execFind s = _
  simp only [execFind, s.executingArgs_eq_some x 7 running is_find]

/-- An address outside aperture space is refused, whatever the enable. -/
theorem State.completeFind_outside (s : State) (address : Word) (outside : s.port.inAperture address = false) :
    s.completeFind address = s.complete .badRange noResults := by
  simp only [State.completeFind, outside, Bool.false_eq_true, if_false]

theorem State.completeFind_found (s : State) (address : Word) (h : Handle) (inside : s.port.inAperture address = true)
    (found : s.covering (s.port.apertureOffset address / Config.granuleBytes) = some h) :
    s.completeFind address =
      s.complete .ok
        (resultWords h.val (s.entry h).state.code
          (s.port.apertureOffset address - Config.granuleBytes * (s.entry h).firstGranule)) := by
  simp only [State.completeFind, inside, if_true, found]

theorem State.completeFind_notFound (s : State) (address : Word) (inside : s.port.inAperture address = true)
    (absent : s.covering (s.port.apertureOffset address / Config.granuleBytes) = none) :
    s.completeFind address =
      s.complete .notFound (resultWords (s.port.apertureOffset address / Config.granuleBytes) 0 0) := by
  simp only [State.completeFind, inside, if_true, absent]

/-- Settles O26: the laws of coverage and lookup are its first two parts, and the three outcomes of FIND are its last. -/
theorem findReportsTheCoveringEntry : Obligations.FindReportsTheCoveringEntry := by
  refine ⟨Entry.covers_iff, fun s granule => ⟨s.covering_eq_none_iff granule, fun h => (s.covering_eq_some_iff granule h).1⟩,
    fun s x running is_find => ?_⟩
  rw [exec_find s x running is_find]
  refine ⟨fun out_of_range => ?outside, fun base_le lt_end => ?inside⟩
  case outside =>
    have outside : s.port.inAperture x.args.at0 = false := by
      rw [Bool.eq_false_iff, ne_eq, Port.inAperture_iff]
      omega
    rw [s.completeFind_outside _ outside]
    rfl
  case inside =>
    have inside : s.port.inAperture x.args.at0 = true := (Port.inAperture_iff _ _).2 ⟨base_le, lt_end⟩
    refine ⟨fun h covers lowest => ?found, fun uncovered => ?notFound⟩
    case found =>
      rw [s.completeFind_found _ h inside ((s.covering_eq_some_iff _ h).2 ⟨covers, lowest⟩)]
      rfl
    case notFound =>
      rw [s.completeFind_notFound _ inside ((s.covering_eq_none_iff _).2 uncovered)]
      rfl

end Sys2Proof.Machine

/-! The posting units under the laws of work in flight: which handles the items of a unit name, and what naming a handle
says about its entry and slot (R46, R50, R51, R123). -/

namespace Sys2Proof.Machine

/-! ## What names a handle (R50) -/

theorem PostingUnit.naming_queued_ne_zero {p : PostingUnit} {item : QueueItem} (queued : item ∈ p.queue) :
    p.naming item.target.handle ≠ 0 := by
  have counted : 0 < p.queue.countP (fun other => other.target.handle == item.target.handle) :=
    List.countP_pos_iff.2 ⟨item, queued, beq_self_eq_true _⟩
  unfold PostingUnit.naming
  omega

theorem PostingUnit.naming_held_ne_zero {p : PostingUnit} {r : HeldRead} (held : p.holder = some r) :
    p.naming r.target.handle ≠ 0 := by
  simp only [PostingUnit.naming, held, if_true]
  omega

/-- A posting unit in which no handle is named is empty. -/
theorem PostingUnit.empty_of_naming_eq_zero {p : PostingUnit} (unnamed : ∀ h, p.naming h = 0) :
    p.queue = [] ∧ p.holder = none := by
  constructor
  case left => exact List.eq_nil_iff_forall_not_mem.2 fun _ queued => naming_queued_ne_zero queued (unnamed _)
  case right => exact Option.eq_none_iff_forall_ne_some.2 fun _ held => naming_held_ne_zero held (unnamed _)

/-! ## What a named handle says about the slot (R46, R50, R51) -/

/-- A handle that an item names is in flight, so its entry is LIVE or FENCED, and the slot of the item is its slot. -/
theorem State.Coherent.active_of_naming_ne_zero {s : State} (coherent : s.Coherent) {i : SlotId} {h : Handle}
    (named : (s.postingUnit i).naming h ≠ 0) : (s.slot i).state = .active := by
  obtain ⟨_, session, in_flight, names⟩ := coherent
  obtain rfl : (s.entry h).slot = i := names i h named
  obtain ⟨count_eq, bound_of_count, _⟩ := in_flight h
  have live_or_fenced : (s.entry h).state = .live ∨ (s.entry h).state = .fenced := bound_of_count (count_eq ▸ named)
  exact (session h live_or_fenced).1

/-! ## The statement (R108, R123) -/

theorem State.Coherent.emptyWhenInactive {s : State} (coherent : s.Coherent) : s.EmptyWhenInactive := by
  intro i inactive
  have unnamed (h : Handle) : (s.postingUnit i).naming h = 0 := by
    by_contra named
    exact inactive (coherent.active_of_naming_ne_zero named)
  exact PostingUnit.empty_of_naming_eq_zero unnamed

theorem State.PostingLaw.queue_length_le {s : State} (posting : s.PostingLaw) (i : SlotId) :
    (s.postingUnit i).queue.length ≤ Config.queueSize := by
  obtain ⟨_, _, _, _, _, bounded, _⟩ := posting i
  exact bounded

/-- Settles O57: the posting law bounds the queue, and the in-flight law leaves no item to a slot that is not ACTIVE. -/
theorem queueAndHolderAreEmptyOutsideActive : Obligations.QueueAndHolderAreEmptyOutsideActive :=
  fun _ coherent posting => ⟨posting.queue_length_le, coherent.emptyWhenInactive⟩

end Sys2Proof.Machine

/-! What one command does to the state, said once: an equation per row for the rows that are the call of one operation of the
state, and the list of the operations that any command comes down to, whichever row or location of the control window
carries it. -/

namespace Sys2Proof.Machine

/-! ## The rows (the dispatch) -/

theorem exec_powerOnReset (straps : Fin 16) (contacts : Quad Contacts) (s : State) :
    exec (.powerOnReset straps contacts) s = .next { State.powerOn straps contacts with pending := s.pending } := rfl

theorem exec_softReset (s : State) : exec .softReset s = .next (s.softReset.answered .ok) := rfl

theorem exec_channelClear (l : Lines) (s : State) :
    exec (.channelClear l) s = .next ((s.channelClear l).answered .ok) := rfl

theorem exec_presenceChange (i : SlotId) (k : Contact) (s : State) :
    exec (.presenceChange i k) s = .next (s.presenceChange i k) := rfl

theorem exec_settleExpiry (i : SlotId) (s : State) : exec (.settleExpiry i) s = .next (s.settleExpiry i) := rfl

theorem exec_probeLowSample (i : SlotId) (k1 k2 : Bool) (s : State) :
    exec (.probeLowSample i k1 k2) s = .next (s.probeLowSample i k1 k2) := rfl

theorem exec_identificationRoundEnd (i : SlotId) (k1 k2 : Bool) (s : State) :
    exec (.identificationRoundEnd i k1 k2) s = .next (s.identificationRoundEnd i k1 k2) := rfl

theorem exec_supply (i : SlotId) (k : SupplyClass) (l : Lines) (s : State) :
    exec (.supply i k l) s = .next ((s.supply i k l).answered .ok) := rfl

theorem exec_supplyOff (i : SlotId) (s : State) : exec (.supplyOff i) s = .next ((s.supplyOff i).answered .ok) := rfl

theorem exec_probe (i : SlotId) (s : State) : exec (.probe i) s = .next ((s.probe i).answered .ok) := rfl

theorem exec_badRequest (i : SlotId) (value : Word) (s : State) :
    exec (.badRequest i value) s = .next ((s.slotResult i .badRequest).answered .ok) := rfl

theorem exec_slotConfigurationWrite (i : SlotId) (value : Word) (s : State) :
    exec (.slotConfigurationWrite i value) s = .next ((s.writeSlotConfig i value).answered .ok) := rfl

theorem exec_timingProfilesWrite (i : SlotId) (value : Word) (s : State) :
    exec (.timingProfilesWrite i value) s = .next ((s.writeProfiles i value).answered .ok) := rfl

theorem exec_powerGoodAssertion (i : SlotId) (s : State) :
    exec (.powerGoodAssertion i) s = .next (s.powerGoodAssertion i) := rfl

theorem exec_powerGoodLimitExpiry (i : SlotId) (s : State) :
    exec (.powerGoodLimitExpiry i) s = .next (s.powerGoodLimitExpiry i) := rfl

theorem exec_resetPulseExpiry (i : SlotId) (l : Lines) (s : State) :
    exec (.resetPulseExpiry i l) s = .next (s.resetPulseExpiry i l) := rfl

theorem exec_readyAssertion (i : SlotId) (l : Lines) (s : State) :
    exec (.readyAssertion i l) s = .next (s.readyAssertion i l) := rfl

theorem exec_readyLimitExpiry (i : SlotId) (s : State) :
    exec (.readyLimitExpiry i) s = .next (s.readyLimitExpiry i) := rfl

theorem exec_overcurrent (i : SlotId) (s : State) : exec (.overcurrent i) s = .next (s.overcurrent i) := rfl

theorem exec_powerGoodLoss (i : SlotId) (s : State) : exec (.powerGoodLoss i) s = .next (s.powerGoodLoss i) := rfl

theorem exec_alertLineChange (i : SlotId) (asserted : Bool) (s : State) :
    exec (.alertLineChange i asserted) s = .next (s.alertLineChange i asserted) := rfl

theorem exec_changeLineEdge (i : SlotId) (rising : Bool) (s : State) :
    exec (.changeLineEdge i rising) s = .next (s.changeLineEdge i rising) := rfl

theorem exec_retiredHandleSetWrite (value : Word) (s : State) :
    exec (.retiredHandleSetWrite value) s = .next ((s.writeRetired value).answered .ok) := rfl

theorem exec_apertureSpaceBaseWrite (value : Word) (s : State) :
    exec (.apertureSpaceBaseWrite value) s = .next ((s.writeBase value).answered .ok) := rfl

theorem exec_portStatusWrite (value : Word) (s : State) :
    exec (.portStatusWrite value) s = .next ((s.writePortStatus value).answered .ok) := rfl

theorem exec_collectionLimitWrite (value : Word) (s : State) :
    exec (.collectionLimitWrite value) s = .next ((s.writeCollectionLimit value).answered .ok) := rfl

theorem exec_discardedWriteCountWrite (i : SlotId) (value : Word) (s : State) :
    exec (.discardedWriteCountWrite i value) s = .next ((s.clearDiscarded i).answered .ok) := rfl

theorem exec_accessCompletion (i : SlotId) (l : Lines) (s : State) :
    exec (.accessCompletion i l) s = .next (s.accessCompletion i l) := rfl

theorem exec_waitTimeout (i : SlotId) (l : Lines) (s : State) :
    exec (.waitTimeout i l) s = .next (s.waitTimeout i l) := rfl

theorem exec_collectionTimerExpiry (i : SlotId) (s : State) :
    exec (.collectionTimerExpiry i) s = .next (s.collectionExpiry i) := rfl

theorem exec_configure (c : ChannelId) (s : State) :
    exec (.configure c) s = .next ((s.configure c).answered .ok) := rfl

theorem exec_arm (c : ChannelId) (l : Lines) (s : State) :
    exec (.arm c l) s = .next ((s.arm c l).answered .ok) := rfl

theorem exec_start (c : ChannelId) (l : Lines) (s : State) :
    exec (.start c l) s = .next ((s.startRequest c l).answered .ok) := rfl

theorem exec_pause (c : ChannelId) (s : State) : exec (.pause c) s = .next ((s.pause c).answered .ok) := rfl

theorem exec_resume (c : ChannelId) (l : Lines) (s : State) :
    exec (.resume c l) s = .next ((s.resume c l).answered .ok) := rfl

theorem exec_cancel (c : ChannelId) (s : State) : exec (.cancel c) s = .next ((s.cancel c).answered .ok) := rfl

theorem exec_unmask (c : ChannelId) (l : Lines) (s : State) :
    exec (.unmask c l) s = .next ((s.unmask c l).answered .ok) := rfl

theorem exec_channelBadRequest (c : ChannelId) (value : Word) (s : State) :
    exec (.channelBadRequest c value) s = .next ((s.channelResult c .badRequest).answered .ok) := rfl

theorem exec_channelSettingWrite (c : ChannelId) (word : SettingWord) (value : Word) (s : State) :
    exec (.channelSettingWrite c word value) s = .next ((s.writeSetting c word value).answered .ok) := rfl

theorem exec_transferRequestAssertion (i : SlotId) (l : Lines) (s : State) :
    exec (.transferRequestAssertion i l) s = .next (s.transferRequest i l) := rfl

theorem exec_memoryAnswer (c : ChannelId) (a : MemoryAnswer) (l : Lines) (s : State) :
    exec (.memoryAnswer c a l) s = .next (s.memoryAnswer c a l) := rfl

theorem exec_eventWordRead (g : EventGroup) (s : State) : exec (.eventWordRead g) s = .next (s.readEventWord g) := rfl

theorem exec_eventWordWrite (g : EventGroup) (value : Word) (s : State) :
    exec (.eventWordWrite g value) s = .next ((s.writeEventWord g value).answered .ok) := rfl

theorem exec_enableWordWrite (g : EventGroup) (value : Word) (s : State) :
    exec (.enableWordWrite g value) s = .next ((s.writeEnableWord g value).answered .ok) := rfl

theorem exec_forceWordWrite (g : EventGroup) (value : Word) (s : State) :
    exec (.forceWordWrite g value) s = .next ((s.writeForceWord g value).answered .ok) := rfl

theorem exec_eventControlWrite (value : Word) (s : State) :
    exec (.eventControlWrite value) s = .next ((s.writeEventControl value).answered .ok) := rfl

theorem exec_faultRelease (value : Word) (s : State) :
    exec (.faultRelease value) s = .next (s.releaseFault.answered .ok) := rfl

theorem exec_pulseEnd (s : State) : exec .pulseEnd s = .next (s.setEvents s.events.endPulse) := rfl

theorem exec_gapEnd (s : State) : exec .gapEnd s = .next (s.setEvents s.events.endGap) := rfl

theorem exec_waitSample (i : SlotId) (waiting : Bool) (lines : BitVec 16) (s : State) :
    exec (.waitSample i waiting lines) s = .next (s.setSequencer i ((s.sequencer i).sampled waiting lines)) := rfl

theorem exec_moduleCycleEnd (i : SlotId) (s : State) :
    exec (.moduleCycleEnd i) s = .next (s.setSequencer i (s.sequencer i).cycleEnded) := rfl

theorem exec_unclaimedAccess (a : Access) (l : Lines) (s : State) :
    exec (.unclaimedAccess a l) s = .next (s.portAccess a l) := rfl

theorem exec_controlWindowMisaligned (a : Access) (l : Lines) (s : State) :
    exec (.controlWindowMisaligned a l) s = .next (s.portAccess a l) := rfl

theorem exec_apertureWrite (address : Word) (size : Size) (data : Word) (l : Lines) (s : State) :
    exec (.apertureWrite address size data l) s =
      .next (s.portAccess { direction := .write, address := address, size := size, data := data } l) := rfl

theorem exec_apertureRead (address : Word) (size : Size) (l : Lines) (s : State) :
    exec (.apertureRead address size l) s =
      .next (s.portAccess { direction := .read, address := address, size := size, data := 0 } l) := rfl

/-- A write at a multiple of 4 is the write of its word location (R92). -/
theorem exec_controlWindowWrite (o : BitVec 12) (value : Word) (l : Lines) (s : State) (aligned : o.toNat % 4 = 0) :
    exec (.controlWindowWrite o value l) s = .next (s.writeWindow (o.toNat / 4) value l) :=
  if_pos aligned

/-- A write off a multiple of 4 is answered ERROR(ALIGN) (R92). -/
theorem exec_controlWindowWrite_misaligned (o : BitVec 12) (value : Word) (l : Lines) (s : State)
    (misaligned : o.toNat % 4 ≠ 0) : exec (.controlWindowWrite o value l) s = .next (s.answered (.error .align)) :=
  if_neg misaligned

/-! ## The completions: with their command in execution, and without it (R67; log 2) -/

theorem exec_create (s : State) :
    exec .create s = .next ((s.executingArgs 1).elim s fun args => s.completeCreate (createArgs args)) := by
  change execCreate s = _
  unfold execCreate
  cases s.executingArgs 1 <;> rfl

theorem exec_activate (s : State) :
    exec .activate s = .next ((s.executingArgs 2).elim s fun args => s.completeActivate (argHandle args)) := by
  change execActivate s = _
  unfold execActivate
  cases s.executingArgs 2 <;> rfl

theorem exec_amend (s : State) :
    exec .amend s = .next ((s.executingArgs 3).elim s fun args => s.completeAmend (amendArgs args)) := by
  change execAmend s = _
  unfold execAmend
  cases s.executingArgs 3 <;> rfl

theorem exec_retire (s : State) :
    exec .retire s = .next ((s.executingArgs 4).elim s fun args => s.completeRetire (argHandle args)) := by
  change execRetire s = _
  unfold execRetire
  cases s.executingArgs 4 <;> rfl

theorem exec_rebind (s : State) :
    exec .rebind s = .next ((s.executingArgs 5).elim s fun args => s.completeRebind (argHandle args)) := by
  change execRebind s = _
  unfold execRebind
  cases s.executingArgs 5 <;> rfl

theorem exec_query (s : State) :
    exec .query s =
      .next ((s.executingArgs 6).elim s fun args => s.completeQuery (argHandle args) (args.at0.getLsbD 8)) := by
  change execQuery s = _
  unfold execQuery
  cases s.executingArgs 6 <;> rfl

theorem exec_find_elim (s : State) :
    exec .find s = .next ((s.executingArgs 7).elim s fun args => s.completeFind args.at0) := by
  change execFind s = _
  unfold execFind
  cases s.executingArgs 7 <;> rfl

theorem exec_sweep (s : State) :
    exec .sweep s = .next ((s.executingArgs 8).elim s fun args => s.completeSweep (quarter (bits args.at0 1 0))) := by
  change execSweep s = _
  unfold execSweep
  cases s.executingArgs 8 <;> rfl

theorem exec_unusedCommand (s : State) :
    exec .unusedCommand s =
      .next (s.command.executing.elim s fun e => if unusedCode e.code then s.complete .badField noResults else s) := by
  change execUnusedCommand s = _
  unfold execUnusedCommand
  cases s.command.executing <;> rfl

/-! ## The operations that a command comes down to -/

/-- What one command can do to a state: the operations of the model, with what each needs to be reached. -/
inductive State.Effect (s : State) : State → Prop
  | stays : s.Effect s
  | answers {t : State} (done : s.Effect t) (a : Answer) : s.Effect (t.answered a)
  | registers (port : Port) (retired : Word) (command : CommandPort) (limit : Nat) (settings : Quad ChannelSettings) :
      s.Effect { s with
        port := port, retired := retired, command := command, collectionLimit := limit, settings := settings }
  | events (u : EventUnit) (lawful : s.events.OutputLaw → u.OutputLaw) : s.Effect (s.setEvents u)
  | powerOn (straps : Fin 16) (contacts : Quad Contacts) :
      s.Effect { State.powerOn straps contacts with pending := s.pending }
  | softReset : s.Effect s.softReset
  | channelClear (l : Lines) : s.Effect (s.channelClear l)
  | presenceChange (i : SlotId) (k : Contact) : s.Effect (s.presenceChange i k)
  | settleExpiry (i : SlotId) : s.Effect (s.settleExpiry i)
  | probeLowSample (i : SlotId) (k1 k2 : Bool) : s.Effect (s.probeLowSample i k1 k2)
  | identificationRoundEnd (i : SlotId) (k1 k2 : Bool) : s.Effect (s.identificationRoundEnd i k1 k2)
  | supply (i : SlotId) (k : SupplyClass) (l : Lines) : s.Effect (s.supply i k l)
  | supplyOff (i : SlotId) : s.Effect (s.supplyOff i)
  | probe (i : SlotId) : s.Effect (s.probe i)
  | slotResult (i : SlotId) (r : SlotResult) : s.Effect (s.slotResult i r)
  | writeSlotConfig (i : SlotId) (value : Word) : s.Effect (s.writeSlotConfig i value)
  | writeProfiles (i : SlotId) (value : Word) : s.Effect (s.writeProfiles i value)
  | powerGoodAssertion (i : SlotId) : s.Effect (s.powerGoodAssertion i)
  | powerGoodLimitExpiry (i : SlotId) : s.Effect (s.powerGoodLimitExpiry i)
  | resetPulseExpiry (i : SlotId) (l : Lines) : s.Effect (s.resetPulseExpiry i l)
  | readyAssertion (i : SlotId) (l : Lines) : s.Effect (s.readyAssertion i l)
  | readyLimitExpiry (i : SlotId) : s.Effect (s.readyLimitExpiry i)
  | overcurrent (i : SlotId) : s.Effect (s.overcurrent i)
  | powerGoodLoss (i : SlotId) : s.Effect (s.powerGoodLoss i)
  | complete (code : ResultCode) (words : Quad Word) : s.Effect (s.complete code words)
  | completeCreate (a : CreateArgs) : s.Effect (s.completeCreate a)
  | completeActivate (h : Handle) : s.Effect (s.completeActivate h)
  | completeAmend (a : AmendArgs) : s.Effect (s.completeAmend a)
  | completeRetire (h : Handle) : s.Effect (s.completeRetire h)
  | completeRebind (h : Handle) : s.Effect (s.completeRebind h)
  | completeQuery (h : Handle) (clearUsed : Bool) : s.Effect (s.completeQuery h clearUsed)
  | completeSweep (i : SlotId) : s.Effect (s.completeSweep i)
  | acceptWrite (a : Access) (h : Handle) (l : Lines) (live : (s.entry h).state = .live)
      (room : (s.postingUnit (s.entry h).slot).queue.length < Config.queueSize) : s.Effect (s.acceptWrite a h l)
  | captureRead (a : Access) (h : Handle) (l : Lines) (live : (s.entry h).state = .live)
      (empty : (s.postingUnit (s.entry h).slot).holder = none) : s.Effect (s.captureRead a h l)
  | collect (i : SlotId) (r : HeldRead) (held : (s.postingUnit i).holder = some r) (finished : r.finished = true) :
      s.Effect (s.emptyHolder i r).settle
  | clearDiscarded (i : SlotId) : s.Effect (s.clearDiscarded i)
  | accessCompletion (i : SlotId) (l : Lines) : s.Effect (s.accessCompletion i l)
  | waitTimeout (i : SlotId) (l : Lines) : s.Effect (s.waitTimeout i l)
  | collectionExpiry (i : SlotId) : s.Effect (s.collectionExpiry i)
  | waitSample (i : SlotId) (waiting : Bool) (lines : BitVec 16) : s.Effect (s.waitSample i waiting lines)
  | moduleCycleEnd (i : SlotId) : s.Effect (s.setSequencer i (s.sequencer i).cycleEnded)
  | configure (c : ChannelId) : s.Effect (s.configure c)
  | arm (c : ChannelId) (l : Lines) : s.Effect (s.arm c l)
  | startRequest (c : ChannelId) (l : Lines) : s.Effect (s.startRequest c l)
  | pause (c : ChannelId) : s.Effect (s.pause c)
  | resume (c : ChannelId) (l : Lines) : s.Effect (s.resume c l)
  | cancel (c : ChannelId) : s.Effect (s.cancel c)
  | unmask (c : ChannelId) (l : Lines) : s.Effect (s.unmask c l)
  | channelResult (c : ChannelId) (r : ChannelResult) : s.Effect (s.channelResult c r)
  | transferRequest (i : SlotId) (l : Lines) : s.Effect (s.transferRequest i l)
  | memoryAnswer (c : ChannelId) (a : MemoryAnswer) (l : Lines) : s.Effect (s.memoryAnswer c a l)

end Sys2Proof.Machine

/-! The law of the interrupt output over every command (R167, R168): each operation that touches the flags leaves the event
unit ready to settle, each command that uses one settles at its end, and the commands of the event unit itself keep the
law. -/

namespace Sys2Proof.Machine

/-! ## The event unit's own commands -/

/-- Clearing flags keeps the unit ready to settle: neither the mode nor the pulses change. -/
theorem EventUnit.settleable_clearMarks (u : EventUnit) (g : EventGroup) (marks : Word) (h : u.Settleable) :
    (u.clearMarks g marks).Settleable := h

theorem EventUnit.outputLaw_readWord (u : EventUnit) (g : EventGroup) (h : u.OutputLaw) : (u.readWord g).OutputLaw := by
  unfold EventUnit.readWord
  split
  · exact outputLaw_settle _ (settleable_clearMarks u g _ (settleable_of_outputLaw u h))
  · exact h

theorem EventUnit.outputLaw_writeWord (u : EventUnit) (g : EventGroup) (value : Word) (h : u.OutputLaw) :
    (u.writeWord g value).OutputLaw := by
  unfold EventUnit.writeWord
  split
  · exact h
  · exact outputLaw_settle _ (settleable_clearMarks u g _ (settleable_of_outputLaw u h))

theorem owe_le_pulsesMax {owed : Nat} (n : Nat) (h : owed ≤ Config.pulsesMax) : owe owed n ≤ Config.pulsesMax := by
  unfold owe
  split
  · exact h
  · exact Nat.min_le_left _ _

theorem EventUnit.outputLaw_writeEnables (u : EventUnit) (g : EventGroup) (value : Word) (h : u.OutputLaw) :
    (u.writeEnables g value).OutputLaw := by
  obtain ⟨idle_in_level, bounded⟩ := settleable_of_outputLaw u h
  refine outputLaw_settle _ ⟨fun level => ?_, ?_⟩
  · change u.interruptMode = .level at level
    simp only [level]
    exact idle_in_level level
  · dsimp only
    split
    · exact bounded
    · exact owe_le_pulsesMax _ bounded

theorem EventUnit.outputLaw_force (u : EventUnit) (g : EventGroup) (value : Word) (h : u.OutputLaw) :
    (u.force g value).OutputLaw :=
  outputLaw_settle _ (settleable_raiseMarks u g value (settleable_of_outputLaw u h))

/-- A change of the mode brings output, pulses and phase to lawful values; without one the law stays. -/
theorem EventUnit.outputLaw_writeControl (u : EventUnit) (value : Word) (h : u.OutputLaw) :
    (u.writeControl value).OutputLaw := by
  obtain ⟨level_law, pulse_law⟩ := h
  unfold EventUnit.writeControl
  cases old : u.interruptMode <;> cases new : interruptModeOf value
  case level.level => exact ⟨fun _ => level_law old, fun mode => nomatch mode⟩
  case level.pulse => exact ⟨fun mode => (nomatch mode), fun _ => ⟨rfl, fun _ => rfl, Nat.zero_le _⟩⟩
  case pulse.level => exact ⟨fun _ => ⟨rfl, rfl, rfl⟩, fun mode => nomatch mode⟩
  case pulse.pulse => exact ⟨fun mode => (nomatch mode), fun _ => pulse_law old⟩

/-- A pulse is in progress in PULSE mode alone, so its end falls under the law of that mode. -/
theorem EventUnit.outputLaw_endPulse (u : EventUnit) (h : u.OutputLaw) : u.endPulse.OutputLaw := by
  obtain ⟨level_law, pulse_law⟩ := h
  unfold EventUnit.endPulse
  split
  next n phase =>
    refine ⟨fun level => ?_, fun pulse => ⟨rfl, fun idle => (nomatch idle), (pulse_law pulse).2.2⟩⟩
    obtain ⟨_, _, idle⟩ := level_law level
    rw [phase] at idle
    cases idle
  next => exact ⟨level_law, pulse_law⟩

theorem EventUnit.outputLaw_endGap (u : EventUnit) (h : u.OutputLaw) : u.endGap.OutputLaw := by
  unfold EventUnit.endGap
  obtain ⟨idle_in_level, bounded⟩ := settleable_of_outputLaw u h
  split
  · exact outputLaw_settle _ ⟨fun level => ⟨(idle_in_level level).1, rfl⟩, bounded⟩
  · exact h

/-- The release of the fault record is no matter of the output. -/
theorem EventUnit.outputLaw_releaseFault (u : EventUnit) (h : u.OutputLaw) : u.releaseFault.OutputLaw := h

theorem EventUnit.outputLaw_initial : EventUnit.initial.OutputLaw :=
  ⟨fun _ => ⟨by decide, rfl, rfl⟩, fun mode => nomatch mode⟩

/-- A settled raise keeps the law. -/
theorem EventUnit.outputLaw_raise_settle (u : EventUnit) (f : Flag) (h : u.OutputLaw) : (u.raise f).settle.OutputLaw :=
  outputLaw_settle _ (settleable_raise u f (settleable_of_outputLaw u h))

/-- The pulses that raised flags owe stay within their bound, and none are owed in LEVEL mode. -/
theorem EventUnit.Raised.settleable {u m : EventUnit} {new : Flag → Prop} (r : u.Raised m new) (h : u.Settleable) :
    m.Settleable := by
  have mode : m.interruptMode = u.interruptMode := by rw [r.rest]
  have phase : m.pulsePhase = u.pulsePhase := by rw [r.rest]
  obtain ⟨idle_in_level, bounded⟩ := h
  refine ⟨fun level => ?_, ?_⟩
  · rw [mode] at level
    rw [phase, r.owed, if_pos (.inl level)]
    exact idle_in_level level
  · rw [r.owed]
    split
    · exact bounded
    · exact Nat.min_le_left _ _

/-! ## Every command is one of the operations -/

theorem State.writeRegister_effect (s : State) (r : Register) (value : Word) (l : Lines) :
    s.Effect (s.writeRegister r value l) := by
  cases r with
  | deviceControl =>
    simp only [State.writeRegister, State.writeDeviceControl]
    split
    · exact .softReset
    · split
      · exact .channelClear l
      · exact .stays
  | base => exact .registers _ s.retired s.command s.collectionLimit s.settings
  | portStatus =>
    simp only [State.writeRegister, State.writePortStatus]
    split
    · exact .registers _ s.retired s.command s.collectionLimit s.settings
    · exact .stays
  | collectionLimit => exact .registers s.port s.retired s.command _ s.settings
  | retiredSet => exact .registers s.port _ s.command s.collectionLimit s.settings
  | argument i => exact .registers s.port s.retired _ s.collectionLimit s.settings
  | command =>
    simp only [State.writeRegister, State.writeCommand]
    split <;> exact .registers s.port s.retired _ s.collectionLimit s.settings
  | commandStatus =>
    simp only [State.writeRegister, State.writeCommandStatus]
    split
    · exact .registers s.port s.retired _ s.collectionLimit s.settings
    · exact .stays
  | slotRequest i =>
    simp only [State.writeRegister, State.slotRequest]
    split
    · exact .supply i _ l
    · exact .supplyOff i
    · exact .probe i
    · exact .slotResult i _
  | discardedCount i => exact .clearDiscarded i
  | slotConfiguration i => exact .writeSlotConfig i value
  | timingProfiles i => exact .writeProfiles i value
  | channelRequest c =>
    simp only [State.writeRegister, State.channelRequest]
    split
    · exact .configure c
    · exact .arm c l
    · exact .startRequest c l
    · exact .pause c
    · exact .resume c l
    · exact .cancel c
    · exact .unmask c l
    · exact .channelResult c _
  | setting c word => exact .registers s.port s.retired s.command s.collectionLimit _
  | event g => exact .events _ (EventUnit.outputLaw_writeWord _ g value)
  | enable g => exact .events _ (EventUnit.outputLaw_writeEnables _ g value)
  | force g => exact .events _ (EventUnit.outputLaw_force _ g value)
  | eventControl => exact .events _ (EventUnit.outputLaw_writeControl _ value)
  | faultRelease => exact .events _ (EventUnit.outputLaw_releaseFault _)
  | _ => exact .stays

theorem State.refuse_effect (s : State) (o : FaultOffer) (code : ErrorCode) : s.Effect (s.refuse o code) :=
  .answers (.events _ fun h =>
    EventUnit.outputLaw_settle _ (EventUnit.settleable_offer _ o (EventUnit.settleable_of_outputLaw _ h))) _

theorem State.readWindow_effect (s : State) (n : Nat) : s.Effect (s.readWindow n) := by
  unfold State.readWindow
  split
  · exact .answers .stays _
  · exact .answers (.events _ (EventUnit.outputLaw_readWord _ _)) _
  · exact .answers .stays _

theorem State.writeWindow_effect (s : State) (n : Nat) (value : Word) (l : Lines) : s.Effect (s.writeWindow n value l) := by
  unfold State.writeWindow
  split
  · exact .answers .stays _
  · exact .answers (s.writeRegister_effect _ value l) _

theorem State.answerHeld_effect (s : State) (i : SlotId) (r : HeldRead) (held : (s.postingUnit i).holder = some r) :
    s.Effect (s.answerHeld i r) := by
  unfold State.answerHeld
  split
  · exact .answers .stays _
  · exact .answers .stays _
  next data ready => exact .answers (.collect i r held (by simp only [HeldRead.finished, ready])) _
  next failed => exact .answers (.collect i r held (by simp only [HeldRead.finished, failed])) _

theorem State.liveAccess_effect (s : State) (a : Access) (h : Handle) (l : Lines) (live : (s.entry h).state = .live) :
    s.Effect (s.liveAccess a h l) := by
  unfold State.liveAccess
  dsimp only
  split
  · split
    · exact s.refuse_effect _ _
    · split
      · exact .answers .stays _
      next room => exact .acceptWrite a h l live (Nat.not_le.1 room)
  · split
    next empty => exact .captureRead a h l live empty
    · exact .answers .stays _

theorem State.coveredAccess_effect (s : State) (a : Access) (h : Handle) (l : Lines) :
    s.Effect (s.coveredAccess a h l) := by
  unfold State.coveredAccess
  dsimp only
  split
  next r found =>
    refine s.answerHeld_effect _ r ?_
    unfold State.heldMatch at found
    split at found
    · cases found
    next r' held =>
      split at found
      · cases found; exact held
      · cases found
  next =>
    split
    · exact s.refuse_effect _ _
    · exact s.refuse_effect _ _
    · exact s.refuse_effect _ _
    next live => exact s.liveAccess_effect a h l live
    · exact s.refuse_effect _ _

theorem State.portAccess_effect (s : State) (a : Access) (l : Lines) : s.Effect (s.portAccess a l) := by
  unfold State.portAccess
  split
  · unfold State.windowAccess
    split
    · split
      · exact s.readWindow_effect _
      · exact s.writeWindow_effect _ _ l
    · exact .answers .stays _
  · split
    · unfold State.apertureAccess
      split
      · exact s.refuse_effect _ _
      · exact s.coveredAccess_effect a _ l
    · exact .answers .stays _
  · exact .answers .stays _

/-- Whatever the command, it answers a next state, which one of the operations gives. -/
theorem exec_effect (c : Instr) (s : State) : ∃ t, exec c s = .next t ∧ s.Effect t := by
  have completed (args : Option (Quad Word)) (f : Quad Word → State) (h : ∀ a, s.Effect (f a)) : s.Effect (args.elim s f) := by
    cases args with
    | none => exact .stays
    | some a => exact h a
  cases c with
  | powerOnReset straps contacts => exact ⟨_, exec_powerOnReset .., .powerOn straps contacts⟩
  | softReset => exact ⟨_, exec_softReset s, .answers .softReset _⟩
  | channelClear l => exact ⟨_, exec_channelClear l s, .answers (.channelClear l) _⟩
  | presenceChange i k => exact ⟨_, exec_presenceChange i k s, .presenceChange i k⟩
  | settleExpiry i => exact ⟨_, exec_settleExpiry i s, .settleExpiry i⟩
  | probeLowSample i k1 k2 => exact ⟨_, exec_probeLowSample i k1 k2 s, .probeLowSample i k1 k2⟩
  | identificationRoundEnd i k1 k2 =>
    exact ⟨_, exec_identificationRoundEnd i k1 k2 s, .identificationRoundEnd i k1 k2⟩
  | supply i k l => exact ⟨_, exec_supply i k l s, .answers (.supply i k l) _⟩
  | supplyOff i => exact ⟨_, exec_supplyOff i s, .answers (.supplyOff i) _⟩
  | probe i => exact ⟨_, exec_probe i s, .answers (.probe i) _⟩
  | badRequest i value => exact ⟨_, exec_badRequest i value s, .answers (.slotResult i _) _⟩
  | slotConfigurationWrite i value =>
    exact ⟨_, exec_slotConfigurationWrite i value s, .answers (.writeSlotConfig i value) _⟩
  | timingProfilesWrite i value => exact ⟨_, exec_timingProfilesWrite i value s, .answers (.writeProfiles i value) _⟩
  | powerGoodAssertion i => exact ⟨_, exec_powerGoodAssertion i s, .powerGoodAssertion i⟩
  | powerGoodLimitExpiry i => exact ⟨_, exec_powerGoodLimitExpiry i s, .powerGoodLimitExpiry i⟩
  | resetPulseExpiry i l => exact ⟨_, exec_resetPulseExpiry i l s, .resetPulseExpiry i l⟩
  | readyAssertion i l => exact ⟨_, exec_readyAssertion i l s, .readyAssertion i l⟩
  | readyLimitExpiry i => exact ⟨_, exec_readyLimitExpiry i s, .readyLimitExpiry i⟩
  | overcurrent i => exact ⟨_, exec_overcurrent i s, .overcurrent i⟩
  | powerGoodLoss i => exact ⟨_, exec_powerGoodLoss i s, .powerGoodLoss i⟩
  | alertLineChange i asserted =>
    refine ⟨_, exec_alertLineChange i asserted s, ?_⟩
    unfold State.alertLineChange
    dsimp only
    split
    · exact .events _ fun h =>
        EventUnit.outputLaw_settle _ (EventUnit.settleable_presentAlert _ i _ (EventUnit.settleable_of_outputLaw _ h))
    · exact .stays
  | changeLineEdge i rising =>
    refine ⟨_, exec_changeLineEdge i rising s, ?_⟩
    unfold State.changeLineEdge
    dsimp only
    split
    · exact .events _ (EventUnit.outputLaw_raise_settle _ _)
    · exact .stays
  | commandAcceptance value =>
    exact ⟨_, exec_commandAcceptance s value, .answers (s.writeRegister_effect .command value Lines.quiet) _⟩
  | commandStatusWrite value =>
    exact ⟨_, exec_commandStatusWrite s value, .answers (s.writeRegister_effect .commandStatus value Lines.quiet) _⟩
  | create => exact ⟨_, exec_create s, completed _ _ fun _ => .completeCreate _⟩
  | activate => exact ⟨_, exec_activate s, completed _ _ fun _ => .completeActivate _⟩
  | amend => exact ⟨_, exec_amend s, completed _ _ fun _ => .completeAmend _⟩
  | retire => exact ⟨_, exec_retire s, completed _ _ fun _ => .completeRetire _⟩
  | rebind => exact ⟨_, exec_rebind s, completed _ _ fun _ => .completeRebind _⟩
  | query => exact ⟨_, exec_query s, completed _ _ fun _ => .completeQuery _ _⟩
  | find =>
    refine ⟨_, exec_find_elim s, completed _ _ fun args => ?_⟩
    unfold State.completeFind
    split
    · dsimp only
      split <;> exact .complete _ _
    · exact .complete _ _
  | sweep => exact ⟨_, exec_sweep s, completed _ _ fun _ => .completeSweep _⟩
  | unusedCommand =>
    refine ⟨_, exec_unusedCommand s, ?_⟩
    cases s.command.executing with
    | none => exact .stays
    | some e =>
      dsimp only [Option.elim]
      split
      · exact .complete _ _
      · exact .stays
  | retiredHandleSetWrite value =>
    exact ⟨_, exec_retiredHandleSetWrite value s, .answers (s.writeRegister_effect .retiredSet value Lines.quiet) _⟩
  | apertureWrite address size data l => exact ⟨_, exec_apertureWrite address size data l s, s.portAccess_effect _ l⟩
  | apertureRead address size l => exact ⟨_, exec_apertureRead address size l s, s.portAccess_effect _ l⟩
  | unclaimedAccess a l => exact ⟨_, exec_unclaimedAccess a l s, s.portAccess_effect a l⟩
  | controlWindowMisaligned a l => exact ⟨_, exec_controlWindowMisaligned a l s, s.portAccess_effect a l⟩
  | apertureSpaceBaseWrite value =>
    exact ⟨_, exec_apertureSpaceBaseWrite value s, .answers (s.writeRegister_effect .base value Lines.quiet) _⟩
  | portStatusWrite value =>
    exact ⟨_, exec_portStatusWrite value s, .answers (s.writeRegister_effect .portStatus value Lines.quiet) _⟩
  | collectionLimitWrite value =>
    exact ⟨_, exec_collectionLimitWrite value s,
      .answers (s.writeRegister_effect .collectionLimit value Lines.quiet) _⟩
  | discardedWriteCountWrite i value =>
    exact ⟨_, exec_discardedWriteCountWrite i value s, .answers (.clearDiscarded i) _⟩
  | accessCompletion i l => exact ⟨_, exec_accessCompletion i l s, .accessCompletion i l⟩
  | waitTimeout i l => exact ⟨_, exec_waitTimeout i l s, .waitTimeout i l⟩
  | collectionTimerExpiry i => exact ⟨_, exec_collectionTimerExpiry i s, .collectionExpiry i⟩
  | configure c => exact ⟨_, exec_configure c s, .answers (.configure c) _⟩
  | arm c l => exact ⟨_, exec_arm c l s, .answers (.arm c l) _⟩
  | start c l => exact ⟨_, exec_start c l s, .answers (.startRequest c l) _⟩
  | pause c => exact ⟨_, exec_pause c s, .answers (.pause c) _⟩
  | resume c l => exact ⟨_, exec_resume c l s, .answers (.resume c l) _⟩
  | cancel c => exact ⟨_, exec_cancel c s, .answers (.cancel c) _⟩
  | unmask c l => exact ⟨_, exec_unmask c l s, .answers (.unmask c l) _⟩
  | channelBadRequest c value => exact ⟨_, exec_channelBadRequest c value s, .answers (.channelResult c _) _⟩
  | channelSettingWrite c word value =>
    exact ⟨_, exec_channelSettingWrite c word value s,
      .answers (s.writeRegister_effect (.setting c word) value Lines.quiet) _⟩
  | transferRequestAssertion i l => exact ⟨_, exec_transferRequestAssertion i l s, .transferRequest i l⟩
  | memoryAnswer c a l => exact ⟨_, exec_memoryAnswer c a l s, .memoryAnswer c a l⟩
  | eventWordRead g => exact ⟨_, exec_eventWordRead g s, .answers (.events _ (EventUnit.outputLaw_readWord _ g)) _⟩
  | eventWordWrite g value =>
    exact ⟨_, exec_eventWordWrite g value s, .answers (s.writeRegister_effect (.event g) value Lines.quiet) _⟩
  | enableWordWrite g value =>
    exact ⟨_, exec_enableWordWrite g value s, .answers (s.writeRegister_effect (.enable g) value Lines.quiet) _⟩
  | forceWordWrite g value =>
    exact ⟨_, exec_forceWordWrite g value s, .answers (s.writeRegister_effect (.force g) value Lines.quiet) _⟩
  | eventControlWrite value =>
    exact ⟨_, exec_eventControlWrite value s, .answers (s.writeRegister_effect .eventControl value Lines.quiet) _⟩
  | faultRelease value =>
    exact ⟨_, exec_faultRelease value s, .answers (s.writeRegister_effect .faultRelease value Lines.quiet) _⟩
  | pulseEnd => exact ⟨_, exec_pulseEnd s, .events _ (EventUnit.outputLaw_endPulse _)⟩
  | gapEnd => exact ⟨_, exec_gapEnd s, .events _ (EventUnit.outputLaw_endGap _)⟩
  | controlWindowWrite o value l =>
    by_cases aligned : o.toNat % 4 = 0
    · exact ⟨_, exec_controlWindowWrite o value l s aligned, s.writeWindow_effect _ value l⟩
    · exact ⟨_, exec_controlWindowWrite_misaligned o value l s aligned, .answers .stays _⟩
  | waitSample i waiting lines => exact ⟨_, exec_waitSample i waiting lines s, .waitSample i waiting lines⟩
  | moduleCycleEnd i => exact ⟨_, exec_moduleCycleEnd i s, .moduleCycleEnd i⟩

/-- One step takes a command off the queue and has one of the operations' effects on the rest, or is one clock period. -/
theorem step_cases {s t : State} (h : step s = .next t) : t = s.tick ∨ ∃ rest, State.Effect { s with pending := rest } t := by
  unfold step at h
  split at h
  · cases h
    exact .inl rfl
  next c rest _ =>
    obtain ⟨t', next, effect⟩ := exec_effect c { s with pending := rest }
    rw [next] at h
    cases h
    exact .inr ⟨rest, effect⟩

end Sys2Proof.Machine

/-! The law of the interrupt output over whole commands (R167, R168): every operation that raises flags leaves the event unit
ready to settle, and every command that uses one settles at its end. -/

namespace Sys2Proof.Machine

/-! ## Operations that raise flags -/

section
variable {s : State} (h : s.events.Settleable)
include h

theorem State.settleable_raise (f : Flag) : (s.raise f).events.Settleable := EventUnit.settleable_raise _ f h

theorem State.settleable_offer (o : FaultOffer) : (s.offer o).events.Settleable := EventUnit.settleable_offer _ o h

theorem State.settleable_abortChannel (c : ChannelId) (k : AbortCause) : (s.abortChannel c k).events.Settleable :=
  EventUnit.settleable_raise _ _ h

theorem State.settleable_issueMemory (c : ChannelId) (m : MemoryAccess) : (s.issueMemory c m).events.Settleable := by
  unfold State.issueMemory
  split
  · exact settleable_abortChannel h c _
  · exact h

theorem State.settleable_startUnit (c : ChannelId) : (s.startUnit c).events.Settleable := by
  unfold State.startUnit
  dsimp only
  split
  · exact h
  · split
    · exact h
    · exact settleable_issueMemory (s := s.setChannel c _) h c _

theorem State.settleable_startIfDemanded (c : ChannelId) (l : Lines) : (s.startIfDemanded c l).events.Settleable := by
  unfold State.startIfDemanded
  split
  · exact settleable_startUnit h c
  · exact h

theorem State.settleable_startIfDue (c : ChannelId) (l : Lines) : (s.startIfDue c l).events.Settleable := by
  unfold State.startIfDue
  dsimp only
  split
  · split
    · split
      · exact settleable_startUnit h c
      · exact h
    · split
      · exact settleable_startUnit (s := s.setChannel c _) h c
      · exact h
    · exact settleable_startIfDemanded h c l
  · exact h

theorem State.settleable_endUnit (c : ChannelId) (l : Lines) : (s.endUnit c l).events.Settleable := by
  unfold State.endUnit
  dsimp only
  split
  · exact settleable_startIfDue (settleable_raise (s := s.setChannel c _) h _) c l
  · exact settleable_startIfDue (s := s.setChannel c _) h c l

theorem State.settleable_choose (i : SlotId) (l : Lines) : (s.choose i l).events.Settleable := by
  obtain ⟨_, _, _, frame⟩ := s.choose_frame i l
  rw [frame]
  exact h

theorem State.settleable_chooseFor (c : ChannelId) (l : Lines) : (s.chooseFor c l).events.Settleable := by
  obtain ⟨_, _, _, frame⟩ := s.chooseFor_frame c l
  rw [frame]
  exact h

theorem State.settleable_finishOne (k : Handle) : (s.finishOne k).events.Settleable := by
  unfold State.finishOne
  split
  · unfold State.freeEntry
    dsimp only
    split
    · exact EventUnit.settleable_raise _ _ h
    · exact h
  · exact h

theorem State.settleable_emptyHolder (i : SlotId) (r : HeldRead) : (s.emptyHolder i r).events.Settleable :=
  settleable_finishOne (s := s.setPosting i _) h _

theorem State.settleable_offerAny (o : Option FaultOffer) : (s.offerAny o).events.Settleable := by
  cases o with
  | none => exact h
  | some f => exact settleable_offer h f

theorem State.settleable_finishRead (i : SlotId) (o : HeldState) : (s.finishRead i o).events.Settleable := by
  obtain ⟨_, frame⟩ := s.finishRead_frame i o
  rw [frame]
  exact h

theorem State.settleable_halfDone (c : ChannelId) (a : BusAccess) (l : Lines) :
    (s.halfDone c a l).events.Settleable := by
  unfold State.halfDone
  dsimp only
  split
  · exact h
  · split
    · exact settleable_issueMemory (s := s.setChannel c _) h c _
    · exact settleable_endUnit h c l

theorem State.settleable_reportCompletion (i : SlotId) (a : BusAccess) (l : Lines) :
    (s.reportCompletion i a l).events.Settleable := by
  unfold State.reportCompletion
  split
  · unfold State.completeWrite
    split
    · exact h
    · exact settleable_finishOne (s := s.setPosting i _) h _
  · exact settleable_finishRead h i _
  · exact settleable_halfDone h _ a l

theorem State.settleable_reportTimeout (i : SlotId) (a : BusAccess) : (s.reportTimeout i a).events.Settleable := by
  unfold State.reportTimeout
  split
  · unfold State.discardWrite
    split
    · exact h
    · exact settleable_finishOne (settleable_raise (s := s.setPosting i _) h _) _
  · exact settleable_finishRead h i _
  · exact settleable_abortChannel h _ _

theorem State.settleable_endSession (e : SessionEnd) (hard : e.cause ≠ .softReset) :
    (s.endSession e).events.Settleable :=
  (s.endSession_raised e hard (EventUnit.Raised.refl s.events (fun _ => False) fun _ => id) fun _ => Iff.rfl).settleable h

theorem State.settleable_enterFaulted (i : SlotId) (k : FaultKind) : (s.enterFaulted i k).events.Settleable := by
  unfold State.enterFaulted
  dsimp only
  have raised (x : SlotController) := settleable_raise (s := s.setSlot i x) h (Flag.fault i)
  split
  · exact settleable_endSession (raised _) _ (by simp)
  · exact raised _

theorem State.settleable_goActive (i : SlotId) (l : Lines) : (s.goActive i l).events.Settleable :=
  EventUnit.settleable_presentAlert _ i _ (settleable_raise (s := s.setSlot i _) h (Flag.sessionUp i))

theorem State.settleable_takeAssertion (c : ChannelId) : (s.takeAssertion c).events.Settleable := by
  unfold State.takeAssertion
  dsimp only
  split
  · split
    · split
      · exact settleable_startUnit h c
      · exact h
    · split
      · exact settleable_startUnit h c
      · exact h
    · split
      · exact settleable_startUnit h c
      · exact h
  · exact h

theorem State.settleable_offerAssertion (i : SlotId) (c : ChannelId) : (s.offerAssertion i c).events.Settleable := by
  unfold State.offerAssertion
  split
  · exact settleable_takeAssertion h c
  · exact h

theorem State.settleable_memoryDone (c : ChannelId) (m : MemoryAccess) (data : BitVec 16) (l : Lines) :
    (s.memoryDone c m data l).events.Settleable := by
  unfold State.memoryDone
  dsimp only
  split
  · exact h
  · split
    · exact h
    · exact settleable_endUnit (s := s.setMemory c none) h c l

/-- The end of an event makes the output lawful. -/
theorem State.outputLaw_settle : s.settle.events.OutputLaw := EventUnit.outputLaw_settle _ h

/-- The end of an event that may have made a module half due makes the output lawful. -/
theorem State.outputLaw_afterUnits (c : ChannelId) (l : Lines) : (s.afterUnits c l).events.OutputLaw :=
  outputLaw_settle (settleable_chooseFor h c l)

theorem State.outputLaw_complete (code : ResultCode) (words : Quad Word) :
    (s.complete code words).events.OutputLaw :=
  EventUnit.outputLaw_settle _ (EventUnit.settleable_raise _ _ h)

end

/-! ## The frames of the commands that raise nothing -/

/-- The clear of a channel's module half changes posting units, sequencers and channels. -/
theorem State.clearHalf_frame (s : State) (i : SlotId) (l : Lines) :
    ∃ p q ch, s.clearHalf i l = { s with posting := p, sequencers := q, channels := ch } := by
  unfold State.clearHalf
  split
  · exact ⟨_, _, _, rfl⟩
  · split
    · obtain ⟨p, q, ch, frame⟩ := (s.freeSequencer i).choose_frame i l
      exact ⟨p, q, ch, frame⟩
    · exact ⟨_, _, _, rfl⟩

/-- A channel clear changes the transfer unit, the master side, the posting units and the sequencers (R158). -/
theorem State.channelClear_frame (s : State) (l : Lines) :
    ∃ p q ch w m, s.channelClear l =
      { s with posting := p, sequencers := q, channels := ch, settings := w, memory := m } := by
  have folded (slots : List SlotId) (t : State) : ∃ p q ch,
      slots.foldl (fun t i => State.clearHalf t i l) t = { t with posting := p, sequencers := q, channels := ch } := by
    induction slots generalizing t with
    | nil => exact ⟨_, _, _, rfl⟩
    | cons i rest ih =>
      obtain ⟨p, q, ch, first⟩ := t.clearHalf_frame i l
      obtain ⟨p', q', ch', others⟩ := ih (t.clearHalf i l)
      exact ⟨p', q', ch', by rw [List.foldl_cons, others, first]⟩
  obtain ⟨p, q, ch, frame⟩ := folded fourIds
    { s with channels := Quad.all Channel.initial, settings := Quad.all ChannelSettings.initial, memory := Quad.all none }
  exact ⟨p, q, ch, _, _, frame⟩

/-! ## The statement -/

theorem State.outputLaw_transferRequest {s : State} (h : s.events.Settleable) (i : SlotId) (l : Lines) :
    (s.transferRequest i l).events.OutputLaw := by
  have offered (channels : List ChannelId) (t : State) (k : t.events.Settleable) :
      (channels.foldl (fun t c => t.offerAssertion i c) t).events.Settleable := by
    induction channels generalizing t with
    | nil => exact k
    | cons c rest ih => exact ih _ (settleable_offerAssertion k i c)
  exact outputLaw_settle (settleable_choose (offered fourIds s h) i l)

/-- Each operation keeps the law: it leaves the event unit, or settles after the flags that it raised. -/
theorem State.Effect.outputLaw {s t : State} (effect : s.Effect t) (law : s.events.OutputLaw) : t.events.OutputLaw := by
  have ready := EventUnit.settleable_of_outputLaw _ law
  induction effect with
  | stays => exact law
  | answers _ _ ih => exact ih
  | registers => exact law
  | events u lawful => exact lawful law
  | powerOn => exact EventUnit.outputLaw_initial
  | softReset => exact EventUnit.outputLaw_initial
  | channelClear l =>
    obtain ⟨_, _, _, _, _, frame⟩ := s.channelClear_frame l
    rw [frame]
    exact law
  | presenceChange i k =>
    refine outputLaw_settle ?_
    have raised (x : SlotController) := settleable_raise (s := s.setSlot i x) ready (Flag.presence i)
    split
    · exact settleable_endSession (raised _) _ (by simp)
    · exact raised _
  | settleExpiry i =>
    unfold State.settleExpiry
    dsimp only
    split
    · split
      · exact law
      · split <;> exact law
    · exact law
  | probeLowSample i k1 k2 =>
    unfold State.probeLowSample
    dsimp only
    split
    · exact law
    · split <;> exact law
  | identificationRoundEnd i k1 k2 =>
    unfold State.identificationRoundEnd
    dsimp only
    split
    · exact law
    · split
      · exact law
      · split
        · exact outputLaw_settle (settleable_raise (s := s.setSlot i _) ready _)
        · exact law
  | supply i k l =>
    unfold State.supply
    dsimp only
    split
    · split
      · unfold State.watchPowering
        split
        · exact outputLaw_settle (settleable_enterFaulted (s := s.setSlot i _) ready i _)
        · split <;> exact law
      · exact outputLaw_settle (settleable_raise (s := s.setSlot i _) ready _)
    all_goals exact law
  | supplyOff i =>
    unfold State.supplyOff
    dsimp only
    split
    case h_3 => exact outputLaw_settle (settleable_endSession (s := s.setSlot i _) ready _ (by simp))
    all_goals exact law
  | probe i =>
    unfold State.probe
    dsimp only
    split <;> exact law
  | slotResult => exact law
  | writeSlotConfig => exact law
  | writeProfiles => exact law
  | powerGoodAssertion i =>
    unfold State.powerGoodAssertion
    split <;> exact law
  | powerGoodLimitExpiry i =>
    unfold State.powerGoodLimitExpiry
    split
    · exact outputLaw_settle (settleable_enterFaulted ready i _)
    · exact law
  | resetPulseExpiry i l =>
    unfold State.resetPulseExpiry
    dsimp only
    split
    · split
      · exact outputLaw_settle (settleable_goActive (s := s.setSlot i _) ready i l)
      · exact law
    · exact law
  | readyAssertion i l =>
    unfold State.readyAssertion
    split
    · exact outputLaw_settle (settleable_goActive ready i l)
    · exact law
  | readyLimitExpiry i =>
    unfold State.readyLimitExpiry
    split
    · exact outputLaw_settle (settleable_enterFaulted ready i _)
    · exact law
  | overcurrent i =>
    unfold State.overcurrent
    split
    · exact outputLaw_settle (settleable_enterFaulted ready i _)
    · exact law
  | powerGoodLoss i =>
    unfold State.powerGoodLoss
    split
    · exact outputLaw_settle (settleable_enterFaulted ready i _)
    · exact outputLaw_settle (settleable_enterFaulted ready i _)
    · exact law
  | complete code words => exact outputLaw_complete ready code words
  | completeCreate a =>
    unfold State.completeCreate
    split
    · repeat' split
      all_goals exact EventUnit.outputLaw_raise_settle _ _ law
    · exact outputLaw_complete ready _ _
  | completeActivate k =>
    unfold State.completeActivate
    dsimp only
    repeat' split
    all_goals exact EventUnit.outputLaw_raise_settle _ _ law
  | completeAmend a =>
    unfold State.completeAmend
    dsimp only
    repeat' split
    all_goals exact EventUnit.outputLaw_raise_settle _ _ law
  | completeRetire k =>
    unfold State.completeRetire
    dsimp only
    split
    · exact outputLaw_complete ready _ _
    · split
      · exact outputLaw_complete ready _ _
      · split
        · exact EventUnit.outputLaw_raise_settle _ _ law
        · refine outputLaw_complete ?_ _ _
          unfold State.freeEntry
          dsimp only
          split
          · exact EventUnit.settleable_raise _ _ ready
          · exact ready
  | completeRebind k =>
    unfold State.completeRebind
    dsimp only
    repeat' split
    all_goals exact EventUnit.outputLaw_raise_settle _ _ law
  | completeQuery k clearUsed =>
    unfold State.completeQuery
    dsimp only
    split <;> exact EventUnit.outputLaw_raise_settle _ _ law
  | completeSweep i =>
    unfold State.completeSweep
    split <;> exact EventUnit.outputLaw_raise_settle _ _ law
  | acceptWrite a k l =>
    exact outputLaw_settle (settleable_choose (s := (s.setPosting _ _).acceptThrough k) ready _ l)
  | captureRead a k l =>
    exact outputLaw_settle (settleable_choose (s := (s.setPosting _ _).acceptThrough k) ready _ l)
  | collect i r => exact outputLaw_settle (settleable_emptyHolder ready i r)
  | clearDiscarded => exact law
  | accessCompletion i l =>
    unfold State.accessCompletion
    split
    · exact law
    · split
      · exact outputLaw_settle
          (settleable_choose (settleable_reportCompletion (s := s.freeSequencer i) ready i _ l) i l)
      · exact law
  | waitTimeout i l =>
    unfold State.waitTimeout
    split
    · exact outputLaw_settle (settleable_choose
        (settleable_reportTimeout (s := (s.offerAny _).freeSequencer i) (settleable_offerAny ready _) i _) i l)
    · exact law
    · exact law
  | collectionExpiry i =>
    unfold State.collectionExpiry
    split
    · split
      · exact outputLaw_settle (settleable_raise (settleable_emptyHolder (settleable_offer ready _) i _) _)
      · exact law
    · exact law
    · exact law
  | waitSample => exact law
  | moduleCycleEnd => exact law
  | configure c =>
    unfold State.configure
    dsimp only
    repeat' split
    all_goals exact law
  | arm c l =>
    unfold State.arm
    split
    · exact outputLaw_afterUnits (settleable_startIfDemanded (s := s.setChannel c _) ready c l) c l
    · exact law
  | startRequest c l =>
    unfold State.startRequest
    dsimp only
    split
    · exact outputLaw_afterUnits (settleable_startUnit (s := s.setChannel c _) ready c) c l
    · exact law
  | pause c =>
    unfold State.pause
    dsimp only
    split <;> exact law
  | resume c l =>
    unfold State.resume
    dsimp only
    split
    · exact outputLaw_afterUnits (settleable_startIfDue (s := s.setChannel c _) ready c l) c l
    · exact law
  | cancel c =>
    unfold State.cancel
    dsimp only
    split <;> exact law
  | unmask c l =>
    exact outputLaw_afterUnits (settleable_startIfDemanded (s := s.setChannel c _) ready c l) c l
  | channelResult => exact law
  | transferRequest i l => exact outputLaw_transferRequest ready i l
  | memoryAnswer c a l =>
    unfold State.memoryAnswer
    split
    · exact law
    · split
      · exact outputLaw_afterUnits (settleable_memoryDone ready c _ _ l) c l
      · split
        · exact outputLaw_settle (settleable_issueMemory ready c _)
        · exact outputLaw_settle (settleable_abortChannel ready c _)
      · exact outputLaw_settle (settleable_abortChannel ready c _)

/-- Settles O53: a clock period leaves the event unit, and each operation a command comes down to keeps the law. -/
theorem stepsKeepTheOutputLaw : Obligations.StepsKeepTheOutputLaw := by
  intro s law t next
  obtain rfl | ⟨rest, effect⟩ := step_cases next
  · exact law
  · exact effect.outputLaw law

end Sys2Proof.Machine

/-! The resets (R1, R2, R38, R39, R158): power-on and soft reset as one equation each, and what a channel clear does to the
sequencer and the posting unit of each slot. -/

namespace Sys2Proof.Machine

/-! ## Power-on reset -/

theorem State.entry_reset (h : Handle) : State.reset.entry h = Entry.free := by
  revert h; decide

theorem EventWords.get_clear (g : EventGroup) : EventWords.clear.get g = 0 := by
  cases g <;> simp [EventWords.clear, EventWords.get]

/-- Settles O3: the blocks hold their initial values by definition, and the tables of four and of 32 hold one value. -/
theorem resetStateHasTheSpecsValues : Obligations.ResetStateHasTheSpecsValues :=
  ⟨rfl, State.entry_reset, rfl, rfl, fun i => Quad.get_all _ i, fun i => Quad.get_all _ i, rfl, fun i => Quad.get_all _ i,
    fun c => Quad.get_all _ c, fun c => Quad.get_all _ c, fun c => Quad.get_all _ c,
    fun g => ⟨EventWords.get_clear g, EventWords.get_clear g⟩, rfl, rfl, rfl, rfl, rfl, fun i => Quad.get_all _ i, rfl, rfl⟩

theorem State.slot_powerOn (straps : Fin 16) (contacts : Quad Contacts) (i : SlotId) :
    (State.powerOn straps contacts).slot i = SlotController.initial (contacts.get i) := Quad.get_map _ _ _

theorem State.slot_reset (i : SlotId) : State.reset.slot i = SlotController.initial ⟨false, false⟩ := by
  rw [State.reset, State.slot_powerOn, Quad.get_all]

/-- Settles O4: the blocks but the slots are those of the reset state, and each slot is decided by its contacts. -/
theorem powerOnResetTakesStrapsAndContacts : Obligations.PowerOnResetTakesStrapsAndContacts := by
  intro straps contacts s
  refine ⟨_, exec_powerOnReset straps contacts s, rfl, fun i => ?_⟩
  change (_ → _ → (State.powerOn straps contacts).slot i = _) ∧ (_ → (State.powerOn straps contacts).slot i = _)
  rw [State.slot_powerOn, State.slot_reset]
  refine ⟨fun open_a open_b => ?_, fun closed => ?_⟩
  · simp [SlotController.initial, open_a, open_b]
  · simp [SlotController.initial, closed, Config.settleInterval]

/-! ## Soft reset -/

/-- The session ends of a soft reset leave the port, the slots, the collection limit, the answer and the queue. -/
theorem State.softEnd_frame (s old : State) (i : SlotId) :
    ∃ t r ch m q p u, s.softEnd old i =
      { s with table := t, retired := r, channels := ch, memory := m, sequencers := q, posting := p, events := u } := by
  unfold State.softEnd
  split
  · exact s.endSession_frame _
  · exact ⟨_, _, _, _, _, _, _, rfl⟩

/-- A soft reset in full: the slots act, and what is neither port, collection limit, answer nor queue takes its reset
values (R39, R62, R63, R124, R125, R141, R173). -/
theorem State.softReset_eq (s : State) :
    s.softReset =
      { State.reset with
        port := s.port, collectionLimit := s.collectionLimit, slots := s.slots.map SlotController.softReset,
        answer := s.answer, pending := s.pending } := by
  have folded (slots : List SlotId) (t : State) :
      (slots.foldl (fun t i => State.softEnd t s i) t).resetBlocks = t.resetBlocks := by
    induction slots generalizing t with
    | nil => rfl
    | cons i rest ih =>
      obtain ⟨_, _, _, _, _, _, _, frame⟩ := t.softEnd_frame s i
      rw [List.foldl_cons, ih, frame]
      rfl
  rw [State.softReset, folded]
  rfl

/-- A slot at a soft reset, by whether it is in a powered state or FAULTED. -/
theorem SlotController.softReset_eq (c : SlotController) :
    c.softReset =
      if c.state.powered then
        { c with state := .identified, timer := .stopped, switchClass := none, resetAsserted := true, faultKind := none }
      else c := by
  unfold SlotController.softReset SlotState.powered
  cases c.state <;> rfl

/-- Settles O5: the equation of a soft reset, read slot by slot. -/
theorem softResetKeepsPortAndUnpoweredSlots : Obligations.SoftResetKeepsPortAndUnpoweredSlots := by
  intro s
  refine ⟨_, exec_softReset s, by rw [State.softReset_eq]; rfl, fun i => ?_⟩
  have slot : (s.softReset.answered .ok).slot i = (s.slot i).softReset := by
    rw [State.slot_answered, State.softReset_eq]
    exact Quad.get_map _ _ _
  rw [slot, SlotController.softReset_eq]
  exact ⟨fun powered => if_pos powered, fun unpowered => if_neg (by simp [unpowered])⟩

/-! ## Channel clear -/

/-- What a channel clear leaves in the sequencer and the posting unit of slot `i`, from state `s` to state `t`: a channel's
module half is abandoned, and the system work that waits begins. -/
abbrev State.HalfCleared (s t : State) (l : Lines) (i : SlotId) : Prop :=
  ((s.sequencer i).access = none → t.sequencer i = s.sequencer i ∧ t.postingUnit i = s.postingUnit i) ∧
  (∀ a, (s.sequencer i).access = some a → a.source.isChannel = false →
    t.sequencer i = s.sequencer i ∧ t.postingUnit i = s.postingUnit i) ∧
  (∀ a, (s.sequencer i).access = some a → a.source.isChannel = true → (s.postingUnit i).offered = none →
    t.sequencer i = { s.sequencer i with access := none, waitTimer := none, partialMark := false } ∧
    t.postingUnit i = s.postingUnit i) ∧
  (∀ a item, (s.sequencer i).access = some a → a.source.isChannel = true →
    (s.postingUnit i).offered = some (.headWrite item) →
    t.postingUnit i = { s.postingUnit i with headInProgress := true } ∧
    t.sequencer i =
      { access := some (s.begun i .headWrite .write item.target item.data l), preference := .channel,
        waitTimer := none, partialMark := false }) ∧
  (∀ a r, (s.sequencer i).access = some a → a.source.isChannel = true →
    (s.postingUnit i).offered = some (.heldRead r) →
    t.postingUnit i = { s.postingUnit i with holder := some { r with state := .issued } } ∧
    t.sequencer i =
      { access := some (s.begun i .heldRead .read r.target 0 l), preference := .channel, waitTimer := none,
        partialMark := false })

/-- An access right after it began (R129, R130). -/
theorem State.beginAccess_eq (s : State) (i : SlotId) (source : AccessSource) (direction : Direction) (target : Target)
    (data : Word) (other : Preference) (l : Lines) :
    s.beginAccess i source direction target data other l =
      s.setSequencer i
        { access := some (s.begun i source direction target data l), preference := other, waitTimer := none,
          partialMark := false } := rfl

@[simp] theorem State.begun_setSequencer (s : State) (j i : SlotId) (q : Sequencer) (source : AccessSource)
    (d : Direction) (g : Target) (w : Word) (l : Lines) :
    (s.setSequencer j q).begun i source d g w l = s.begun i source d g w l := rfl

@[simp] theorem State.begun_setPosting (s : State) (j i : SlotId) (p : PostingUnit) (source : AccessSource)
    (d : Direction) (g : Target) (w : Word) (l : Lines) :
    (s.setPosting j p).begun i source d g w l = s.begun i source d g w l := rfl

/-- With no channel's half due, a free sequencer begins the system work that waits, if there is any (R126). -/
theorem State.choose_system (s : State) (i : SlotId) (l : Lines) (free : (s.sequencer i).access = none)
    (undue : s.dueChannel i = none) :
    s.choose i l = (s.postingUnit i).offered.elim s fun w => s.beginSystem i w l := by
  unfold State.choose
  rw [free, undue]
  cases (s.postingUnit i).offered <;> rfl

/-- Channels at their reset values have no half due. -/
theorem State.dueChannel_of_initial (s : State) (i : SlotId) (cleared : s.channels = Quad.all Channel.initial) :
    s.dueChannel i = none := by
  refine s.dueChannel_none i fun c due => ?_
  have initial : s.channel c = Channel.initial := by rw [State.channel, cleared, Quad.get_all]
  rw [initial] at due
  cases due

/-- The clear at one slot, of a state whose channels are at their reset values: the slot's work is as it should be, the
other slots' and everything else stay. -/
theorem State.clearHalf_spec (s : State) (i : SlotId) (l : Lines) (cleared : s.channels = Quad.all Channel.initial) :
    s.HalfCleared (s.clearHalf i l) l i ∧
    (∀ j, j ≠ i → (s.clearHalf i l).sequencer j = s.sequencer j ∧ (s.clearHalf i l).postingUnit j = s.postingUnit j) ∧
    ∃ p q, s.clearHalf i l = { s with posting := p, sequencers := q } := by
  cases running : (s.sequencer i).access with
  | none =>
    have same : s.clearHalf i l = s := by simp only [State.clearHalf, running]
    rw [same]
    exact ⟨by simp [State.HalfCleared, running], fun _ _ => ⟨rfl, rfl⟩, _, _, rfl⟩
  | some a =>
    cases source : a.source.isChannel with
    | false =>
      have same : s.clearHalf i l = s := by simp [State.clearHalf, running, source]
      have spared : ∀ a', (s.sequencer i).access = some a' → a'.source.isChannel = true → False := by
        intro a' same_access
        cases running.symm.trans same_access
        simp [source]
      rw [same]
      exact ⟨⟨fun _ => ⟨rfl, rfl⟩, fun _ _ _ => ⟨rfl, rfl⟩, fun a' running' channel => (spared a' running' channel).elim,
        fun a' _ running' channel => (spared a' running' channel).elim,
        fun a' _ running' channel => (spared a' running' channel).elim⟩, fun _ _ => ⟨rfl, rfl⟩, _, _, rfl⟩
    | true =>
      have chosen : s.clearHalf i l = (s.freeSequencer i).choose i l := by simp [State.clearHalf, running, source]
      have free : ((s.freeSequencer i).sequencer i).access = none := by simp [State.freeSequencer, Sequencer.freed]
      rw [chosen, State.choose_system _ i l free (State.dueChannel_of_initial _ i cleared)]
      simp only [State.freeSequencer, State.postingUnit_setSequencer]
      cases work : (s.postingUnit i).offered with
      | none =>
        refine ⟨?_, fun j other => by simp [other], _, _, rfl⟩
        simp [State.HalfCleared, running, work, source, Sequencer.freed]
      | some w =>
        cases w with
        | headWrite item =>
          refine ⟨?_, fun j other => by simp [State.beginSystem, State.beginAccess_eq, other], _, _, rfl⟩
          simp [State.HalfCleared, running, source, work, State.beginSystem, State.beginAccess_eq]
        | heldRead r =>
          refine ⟨?_, fun j other => by simp [State.beginSystem, State.beginAccess_eq, other], _, _, rfl⟩
          simp [State.HalfCleared, running, source, work, State.beginSystem, State.beginAccess_eq]

/-- The clear of one slot reads that slot's work and configuration alone, and says nothing of the other slots after it. -/
theorem State.HalfCleared.congr {s s' t t' : State} {l : Lines} {i : SlotId} (cleared : s.HalfCleared t l i)
    (sequencer : s'.sequencer i = s.sequencer i) (posting : s'.postingUnit i = s.postingUnit i)
    (slot : s'.slot i = s.slot i) (sequencer' : t'.sequencer i = t.sequencer i)
    (posting' : t'.postingUnit i = t.postingUnit i) : s'.HalfCleared t' l i := by
  have begun (source : AccessSource) (d : Direction) (g : Target) (w : Word) :
      s'.begun i source d g w l = s.begun i source d g w l := by simp only [State.begun, slot]
  simp only [State.HalfCleared, sequencer, posting, sequencer', posting', begun]
  exact cleared

/-- A clear of several slots in turn: each is cleared once, and no other is touched. -/
theorem State.foldl_clearHalf_spec (l : Lines) (slots : List SlotId) (distinct : slots.Nodup) (s : State)
    (cleared : s.channels = Quad.all Channel.initial) :
    (∀ i ∈ slots, s.HalfCleared (slots.foldl (fun t i => State.clearHalf t i l) s) l i) ∧
    (∀ j, j ∉ slots → (slots.foldl (fun t i => State.clearHalf t i l) s).sequencer j = s.sequencer j ∧
      (slots.foldl (fun t i => State.clearHalf t i l) s).postingUnit j = s.postingUnit j) ∧
    ∃ p q, slots.foldl (fun t i => State.clearHalf t i l) s = { s with posting := p, sequencers := q } := by
  induction slots generalizing s with
  | nil => exact ⟨by simp, fun _ _ => ⟨rfl, rfl⟩, _, _, rfl⟩
  | cons i rest ih =>
    obtain ⟨fresh, distinct⟩ := List.nodup_cons.1 distinct
    obtain ⟨at_i, elsewhere, p, q, frame⟩ := s.clearHalf_spec i l cleared
    obtain ⟨at_rest, outside, p', q', frame'⟩ := ih distinct (s.clearHalf i l) (by rw [frame]; exact cleared)
    rw [List.foldl_cons]
    refine ⟨fun j member => ?_, fun j apart => ?_, p', q', by rw [frame', frame]⟩
    · obtain rfl | in_rest := List.mem_cons.1 member
      · obtain ⟨sequencer, posting⟩ := outside j fresh
        exact at_i.congr rfl rfl rfl sequencer posting
      · have other : j ≠ i := fun same => fresh (same ▸ in_rest)
        obtain ⟨sequencer, posting⟩ := elsewhere j other
        exact (at_rest j in_rest).congr sequencer.symm posting.symm (by rw [frame]; rfl) rfl rfl
    · obtain ⟨other, not_in_rest⟩ := not_or.1 (fun member => apart (List.mem_cons.2 member))
      obtain ⟨sequencer, posting⟩ := outside j not_in_rest
      obtain ⟨sequencer', posting'⟩ := elsewhere j other
      exact ⟨sequencer.trans sequencer', posting.trans posting'⟩

/-- A channel clear in full (R158, R138, R126). -/
theorem State.channelClear_spec (s : State) (l : Lines) :
    (∀ i, s.HalfCleared (s.channelClear l) l i) ∧
    ∃ p q, s.channelClear l =
      { s with
        channels := Quad.all Channel.initial, settings := Quad.all ChannelSettings.initial, memory := Quad.all none
        posting := p, sequencers := q } := by
  obtain ⟨cleared, _, frame⟩ := State.foldl_clearHalf_spec l fourIds (by decide)
    { s with channels := Quad.all Channel.initial, settings := Quad.all ChannelSettings.initial, memory := Quad.all none }
    rfl
  exact ⟨fun i => (cleared i (by revert i; decide)).congr rfl rfl rfl rfl rfl, frame⟩

/-- Settles O6: the clears of the four slots, over channels, setting words and memory records at their reset values. -/
theorem channelClearAbandonsHalvesAndSparesSystemAccesses :
    Obligations.ChannelClearAbandonsHalvesAndSparesSystemAccesses := by
  intro l s
  obtain ⟨cleared, p, q, frame⟩ := s.channelClear_spec l
  refine ⟨_, exec_channelClear l s, by rw [frame]; rfl, fun c => ?_, fun i => (cleared i).congr rfl rfl rfl rfl rfl⟩
  rw [frame]
  exact ⟨Quad.get_all _ c, Quad.get_all _ c, Quad.get_all _ c⟩

end Sys2Proof.Machine

/-! The laws of the channels under the transfer unit's own operations (R104, R105, R142, R152, R153): each of them touches one
channel and its memory access record, and keeps the laws by what it leaves in that channel. -/

namespace Sys2Proof.Machine

/-! ## The laws, channel by channel -/

/-- The laws of the channels, taken together. -/
abbrev State.ChannelLaws (s : State) : Prop := s.ChannelLaw ∧ s.HalfLaw ∧ s.CountLaw ∧ s.RetryLaw

/-- The bound entry of a channel lets it be active (R142). -/
def State.Serves (s : State) (ch : Channel) : Prop :=
  ∃ h, ch.bound = some h ∧ (s.entry h).state = .live ∧ (ch.direction = .toMemory ∨ (s.entry h).access = .readWrite)

/-- What the laws say of one channel and its memory access record. -/
structure State.Sound (s : State) (ch : Channel) (m : Option MemoryAccess) : Prop where
  serves : ch.isActive = true → s.Serves ch
  unit : ch.unit.isSome = true → ch.state = .running
  record : ∀ h, ch.bound = some h → ch.recordHandle = h
  memory : m.isSome = ch.inMemoryHalf
  current : ch.currentCount ≤ ch.baseCount
  base : ch.baseCount ≤ 65536
  retries : retriesBounded m = true

/-- What the laws say of a sequencer that carries out the module half of channel `c` in direction `d`. -/
abbrev State.Carries (s : State) (i : SlotId) (c : ChannelId) (d : Direction) : Prop :=
  s.channelSlot c = some i ∧ (s.channel c).inBegunHalf = true ∧ (s.channel c).direction.moduleDirection = d

theorem State.entryServes_iff (s : State) (c : ChannelId) : s.entryServes c = true ↔ s.Serves (s.channel c) := by
  unfold State.entryServes State.Serves
  cases (s.channel c).bound <;> simp

theorem State.channelLaws_iff (s : State) :
    s.ChannelLaws ↔
      (∀ c, s.Sound (s.channel c) (s.memoryRecord c)) ∧
      ∀ i c d, (s.sequencer i).runsHalf = some (c, d) → s.Carries i c d := by
  constructor
  · rintro ⟨channel, ⟨memory, carries⟩, count, retry⟩
    refine ⟨fun c => ?_, carries⟩
    obtain ⟨serves, unit, record⟩ := channel c
    obtain ⟨current, base⟩ := count c
    exact ⟨fun active => (s.entryServes_iff c).1 (serves active), unit, record, memory c, current, base, retry c⟩
  · rintro ⟨sound, carries⟩
    exact ⟨fun c => ⟨fun active => (s.entryServes_iff c).2 ((sound c).serves active), (sound c).unit, (sound c).record⟩,
      ⟨fun c => (sound c).memory, carries⟩, fun c => ⟨(sound c).current, (sound c).base⟩, fun c => (sound c).retries⟩

theorem State.ChannelLaws.sound {s : State} (law : s.ChannelLaws) (c : ChannelId) :
    s.Sound (s.channel c) (s.memoryRecord c) := (s.channelLaws_iff.1 law).1 c

theorem State.ChannelLaws.carries {s : State} (law : s.ChannelLaws) {i : SlotId} {c : ChannelId} {d : Direction}
    (runs : (s.sequencer i).runsHalf = some (c, d)) : s.Carries i c d := (s.channelLaws_iff.1 law).2 i c d runs

/-- A channel is active in ARMED, RUNNING and PAUSED alone (R69). -/
theorem Channel.isActive_iff (c : Channel) :
    c.isActive = true ↔ c.state = .armed ∨ c.state = .running ∨ c.state = .paused := by
  unfold Channel.isActive
  cases c.state <;> simp

theorem Channel.inMemoryHalf_of_no_unit {c : Channel} (idle : c.unit = none) : c.inMemoryHalf = false := by
  simp only [Channel.inMemoryHalf, idle]

theorem Channel.inBegunHalf_of_no_unit {c : Channel} (idle : c.unit = none) : c.inBegunHalf = false := by
  simp only [Channel.inBegunHalf, idle]

/-- A unit is in its memory half or in its module half. -/
theorem Channel.inBegunHalf_of_inMemoryHalf {c : Channel} (memory : c.inMemoryHalf = true) : c.inBegunHalf = false := by
  unfold Channel.inMemoryHalf at memory
  unfold Channel.inBegunHalf
  cases h : c.unit with
  | none => rfl
  | some u =>
    rw [h] at memory
    have half : u.half = .memoryHalf := by simpa using memory
    simp [half]

/-- No unit is in progress outside RUNNING (8.2). -/
theorem State.Sound.no_unit {s : State} {ch : Channel} {m : Option MemoryAccess} (sound : s.Sound ch m)
    (still : ch.state ≠ .running) : ch.unit = none := by
  by_contra busy
  exact still (sound.unit (Option.isSome_iff_ne_none.2 busy))

/-- A channel whose unit is not in a begun module half is carried out by no sequencer (R129). -/
theorem State.ChannelLaws.not_run {s : State} (law : s.ChannelLaws) {c : ChannelId}
    (apart : (s.channel c).inBegunHalf = false) (i : SlotId) (d : Direction) :
    (s.sequencer i).runsHalf ≠ some (c, d) := by
  intro runs
  obtain ⟨_, begun, _⟩ := law.carries runs
  rw [apart] at begun
  cases begun

/-! ## One channel touched -/

/-- State `t` is state `s` but for channel `c`, its memory access record and the event unit. -/
structure State.Touches (s t : State) (c : ChannelId) : Prop where
  frame : t = { s with channels := t.channels, memory := t.memory, events := t.events }
  others : ∀ d, d ≠ c → t.channel d = s.channel d ∧ t.memoryRecord d = s.memoryRecord d

theorem State.Touches.refl (s : State) (c : ChannelId) : s.Touches s c := ⟨rfl, fun _ _ => ⟨rfl, rfl⟩⟩

theorem State.Touches.trans {s t u : State} {c : ChannelId} (first : s.Touches t c) (second : t.Touches u c) :
    s.Touches u c := by
  refine ⟨?_, fun d other => ?_⟩
  · rw [second.frame, first.frame]
  · obtain ⟨channel, memory⟩ := first.others d other
    obtain ⟨channel', memory'⟩ := second.others d other
    exact ⟨channel'.trans channel, memory'.trans memory⟩

theorem State.touches_setChannel (s : State) (c : ChannelId) (x : Channel) : s.Touches (s.setChannel c x) c :=
  ⟨rfl, fun d other => ⟨by simp [other], rfl⟩⟩

theorem State.touches_setMemory (s : State) (c : ChannelId) (x : Option MemoryAccess) : s.Touches (s.setMemory c x) c :=
  ⟨rfl, fun d other => ⟨rfl, by simp [other]⟩⟩

theorem State.touches_setEvents (s : State) (c : ChannelId) (u : EventUnit) : s.Touches (s.setEvents u) c :=
  ⟨rfl, fun _ _ => ⟨rfl, rfl⟩⟩

theorem State.touches_abortChannel (s : State) (c : ChannelId) (k : AbortCause) : s.Touches (s.abortChannel c k) c :=
  ((s.touches_setChannel c _).trans (State.touches_setMemory _ c none)).trans (State.touches_setEvents _ c _)

theorem State.touches_issueMemory (s : State) (c : ChannelId) (m : MemoryAccess) : s.Touches (s.issueMemory c m) c := by
  unfold State.issueMemory
  split
  · exact s.touches_abortChannel c _
  · exact s.touches_setMemory c _

theorem State.touches_startUnit (s : State) (c : ChannelId) : s.Touches (s.startUnit c) c := by
  unfold State.startUnit
  dsimp only
  split
  · exact .refl s c
  · split
    · exact s.touches_setChannel c _
    · exact (s.touches_setChannel c _).trans (State.touches_issueMemory _ c _)

theorem State.touches_startIfDemanded (s : State) (c : ChannelId) (l : Lines) : s.Touches (s.startIfDemanded c l) c := by
  unfold State.startIfDemanded
  split
  · exact s.touches_startUnit c
  · exact .refl s c

theorem State.touches_startIfDue (s : State) (c : ChannelId) (l : Lines) : s.Touches (s.startIfDue c l) c := by
  unfold State.startIfDue
  dsimp only
  split
  · split
    · split
      · exact s.touches_startUnit c
      · exact .refl s c
    · split
      · exact (s.touches_setChannel c _).trans (State.touches_startUnit _ c)
      · exact .refl s c
    · exact s.touches_startIfDemanded c l
  · exact .refl s c

theorem State.Touches.entry {s t : State} {c : ChannelId} (touch : s.Touches t c) (h : Handle) : t.entry h = s.entry h := by
  rw [touch.frame]
  rfl

theorem State.Touches.sequencer {s t : State} {c : ChannelId} (touch : s.Touches t c) (i : SlotId) :
    t.sequencer i = s.sequencer i := by
  rw [touch.frame]
  rfl

/-- What a channel needs to be sound is its own, and the table. -/
theorem State.Sound.congr {s t : State} {ch : Channel} {m : Option MemoryAccess} (sound : s.Sound ch m)
    (table : ∀ h, t.entry h = s.entry h) : t.Sound ch m := by
  obtain ⟨serves, unit, record, memory, current, base, retries⟩ := sound
  refine ⟨fun active => ?_, unit, record, memory, current, base, retries⟩
  obtain ⟨h, bound, live, access⟩ := serves active
  rw [← table h] at live access
  exact ⟨h, bound, live, access⟩

/-- The laws after an operation that touches one channel: they hold of that channel, and of the sequencer that carries it
out if there is one. -/
theorem State.ChannelLaws.touched {s t : State} {c : ChannelId} (law : s.ChannelLaws) (touch : s.Touches t c)
    (sound : s.Sound (t.channel c) (t.memoryRecord c))
    (runs : ∀ i d, (s.sequencer i).runsHalf = some (c, d) → t.Carries i c d) : t.ChannelLaws := by
  refine t.channelLaws_iff.2 ⟨fun k => ?_, fun i k d carried => ?_⟩
  · by_cases same : k = c
    · rw [same]
      exact sound.congr touch.entry
    · obtain ⟨channel, memory⟩ := touch.others k same
      rw [channel, memory]
      exact (law.sound k).congr touch.entry
  · rw [touch.sequencer] at carried
    by_cases same : k = c
    · subst same
      exact runs i d carried
    · obtain ⟨channel, memory⟩ := touch.others k same
      have carries := law.carries carried
      unfold State.Carries State.channelSlot at carries ⊢
      simp only [channel, touch.entry]
      exact carries

/-- The laws after an operation that touches a channel which no sequencer carries out. -/
theorem State.ChannelLaws.touched_apart {s t : State} {c : ChannelId} (law : s.ChannelLaws) (touch : s.Touches t c)
    (apart : ∀ i d, (s.sequencer i).runsHalf ≠ some (c, d)) (sound : s.Sound (t.channel c) (t.memoryRecord c)) :
    t.ChannelLaws :=
  law.touched touch sound fun i d runs => (apart i d runs).elim

/-- A channel without a unit takes other values without one. -/
theorem State.ChannelLaws.setChannel_idle {s : State} {c : ChannelId} (law : s.ChannelLaws)
    (idle : (s.channel c).unit = none) (x : Channel) (still : x.unit = none) (serves : x.isActive = true → s.Serves x)
    (record : ∀ h, x.bound = some h → x.recordHandle = h) (current : x.currentCount ≤ x.baseCount)
    (base : x.baseCount ≤ 65536) : (s.setChannel c x).ChannelLaws := by
  refine law.touched_apart (s.touches_setChannel c x) (law.not_run (Channel.inBegunHalf_of_no_unit idle)) ?_
  obtain sound := law.sound c
  rw [State.channel_setChannel, if_pos rfl]
  refine ⟨serves, fun busy => (by rw [still] at busy; cases busy), record, ?_, current, base, sound.retries⟩
  rw [Channel.inMemoryHalf_of_no_unit still, ← Channel.inMemoryHalf_of_no_unit idle]
  exact sound.memory

/-- Values of a channel that its laws do not read: the mask, the stop pending, the unit due, the resume state, the abort
cause and the last request result. -/
theorem State.ChannelLaws.setChannel_marks {s : State} {c : ChannelId} (law : s.ChannelLaws) (mask due : Bool)
    (stop : StopPending) (resume : Option ResumeState) (cause : Option AbortCause) (result : ChannelResult) :
    (s.setChannel c
      { s.channel c with
        mask := mask, unitDue := due, stopPending := stop, resumeState := resume, abortCause := cause,
        lastResult := result }).ChannelLaws := by
  obtain ⟨serves, unit, record, memory, current, base, retries⟩ := law.sound c
  refine law.touched (s.touches_setChannel c _) ?_ fun i d runs => ?_
  · rw [State.channel_setChannel, if_pos rfl]
    exact ⟨serves, unit, record, memory, current, base, retries⟩
  · obtain ⟨slot, begun, direction⟩ := law.carries runs
    unfold State.Carries State.channelSlot at *
    rw [State.channel_setChannel, if_pos rfl]
    exact ⟨slot, begun, direction⟩

/-! ## Aborts, issues and units -/

/-- An abort of a channel that no sequencer carries out leaves it without a unit and not active (R154). -/
theorem State.ChannelLaws.abortChannel {s : State} {c : ChannelId} (law : s.ChannelLaws)
    (apart : ∀ i d, (s.sequencer i).runsHalf ≠ some (c, d)) (k : AbortCause) : (s.abortChannel c k).ChannelLaws := by
  obtain ⟨_, _, record, _, current, base, _⟩ := law.sound c
  refine law.touched_apart (s.touches_abortChannel c k) apart ?_
  have channel : (s.abortChannel c k).channel c =
      { s.channel c with
        state := .aborted, abortCause := some k, unit := none, stopPending := .none, resumeState := none,
        unitDue := false } := by
    simp [State.abortChannel]
  have memory : (s.abortChannel c k).memoryRecord c = none := by simp [State.abortChannel]
  rw [channel, memory]
  exact ⟨fun active => (nomatch active), fun busy => (nomatch busy), record, rfl, current, base, rfl⟩

/-- A channel of which no sequencer carries out a half goes into its memory half, and the access is issued (R104). -/
theorem State.ChannelLaws.issueHalf {s : State} {c : ChannelId} (law : s.ChannelLaws)
    (apart : ∀ i d, (s.sequencer i).runsHalf ≠ some (c, d)) (x : Channel) (u : UnitInProgress) (m : MemoryAccess)
    (unit : x.unit = some u) (half : u.half = .memoryHalf) (running : x.state = .running) (serves : s.Serves x)
    (record : ∀ h, x.bound = some h → x.recordHandle = h) (current : x.currentCount ≤ x.baseCount)
    (base : x.baseCount ≤ 65536) (retries : m.retries ≤ Config.retryMax) :
    ((s.setChannel c x).issueMemory c m).ChannelLaws := by
  have touch := (s.touches_setChannel c x).trans (State.touches_issueMemory _ c m)
  refine law.touched_apart touch apart ?_
  unfold State.issueMemory
  split
  · have channel (k : AbortCause) : ((s.setChannel c x).abortChannel c k).channel c =
        { x with
          state := .aborted, abortCause := some k, unit := none, stopPending := .none, resumeState := none,
          unitDue := false } := by
      simp [State.abortChannel]
    have memory (k : AbortCause) : ((s.setChannel c x).abortChannel c k).memoryRecord c = none := by
      simp [State.abortChannel]
    rw [channel, memory]
    exact ⟨fun active => (nomatch active), fun busy => (nomatch busy), record, rfl, current, base, rfl⟩
  · simp only [State.channel_setMemory, State.channel_setChannel, State.memoryRecord_setMemory, if_true]
    exact ⟨fun _ => serves, fun _ => running, record, by simp [Channel.inMemoryHalf, unit, half], current, base,
      by simpa [retriesBounded] using retries⟩

/-- A unit starts in a channel that has none and whose entry serves it (R152). -/
theorem State.ChannelLaws.startUnit {s : State} {c : ChannelId} (law : s.ChannelLaws) (idle : (s.channel c).unit = none)
    (serves : s.Serves (s.channel c)) : (s.startUnit c).ChannelLaws := by
  have apart := law.not_run (Channel.inBegunHalf_of_no_unit idle)
  obtain ⟨_, _, record, memory, current, base, retries⟩ := law.sound c
  unfold State.startUnit
  dsimp only
  split
  · exact law
  · split
    · refine law.touched_apart (s.touches_setChannel c _) apart ?_
      rw [State.channel_setChannel, if_pos rfl]
      refine ⟨fun _ => serves, fun _ => rfl, record, ?_, current, base, retries⟩
      rw [Channel.inMemoryHalf_of_no_unit idle] at memory
      exact memory
    · exact law.issueHalf apart _ _ _ rfl rfl rfl serves record current base (Nat.zero_le _)

/-- A channel that may start a unit has none in progress (R151). -/
theorem Channel.mayStart_iff (c : Channel) :
    c.mayStart = true ↔ (c.state = .armed ∨ c.state = .running) ∧ c.unit = none ∧ c.stopPending = .none := by
  simp [Channel.mayStart, and_assoc]

theorem State.ChannelLaws.startUnit_of_mayStart {s : State} {c : ChannelId} (law : s.ChannelLaws)
    (may : (s.channel c).mayStart = true) : (s.startUnit c).ChannelLaws := by
  obtain ⟨state, idle, _⟩ := (Channel.mayStart_iff _).1 may
  refine law.startUnit idle ((law.sound c).serves ((Channel.isActive_iff _).2 ?_))
  exact state.elim .inl fun running => .inr (.inl running)

theorem State.ChannelLaws.startIfDemanded {s : State} {c : ChannelId} (law : s.ChannelLaws) (l : Lines) :
    (s.startIfDemanded c l).ChannelLaws := by
  unfold State.startIfDemanded
  split
  next due => exact law.startUnit_of_mayStart (Bool.and_eq_true_iff.1 due).1
  · exact law

theorem State.ChannelLaws.startIfDue {s : State} {c : ChannelId} (law : s.ChannelLaws) (l : Lines) :
    (s.startIfDue c l).ChannelLaws := by
  unfold State.startIfDue
  dsimp only
  split
  next may =>
    split
    · split
      · exact law.startUnit_of_mayStart may
      · exact law
    · split
      · refine (law.setChannel_marks (c := c) _ false _ _ _ _).startUnit_of_mayStart ?_
        rw [State.channel_setChannel, if_pos rfl]
        exact may
      · exact law
    · exact law.startIfDemanded l
  · exact law

/-! ## The end of a unit (R153) -/

/-- What a pending stop leaves alone. -/
theorem Channel.applyStop_keeps (c : Channel) :
    c.applyStop.bound = c.bound ∧ c.applyStop.direction = c.direction ∧ c.applyStop.unit = c.unit ∧
    c.applyStop.recordHandle = c.recordHandle ∧ c.applyStop.currentCount = c.currentCount ∧
    c.applyStop.baseCount = c.baseCount ∧ (c.applyStop.isActive = true → c.isActive = true) := by
  unfold Channel.applyStop
  split
  next armed _ => exact ⟨rfl, rfl, rfl, rfl, rfl, rfl, fun _ => (Channel.isActive_iff c).2 (.inl armed)⟩
  next running _ => exact ⟨rfl, rfl, rfl, rfl, rfl, rfl, fun _ => (Channel.isActive_iff c).2 (.inr (.inl running))⟩
  · exact ⟨rfl, rfl, rfl, rfl, rfl, rfl, fun active => nomatch active⟩
  · exact ⟨rfl, rfl, rfl, rfl, rfl, rfl, fun active => nomatch active⟩
  · exact ⟨rfl, rfl, rfl, rfl, rfl, rfl, id⟩

/-- What terminal count leaves alone, and the count it leaves. -/
theorem Channel.terminal_keeps (c : Channel) (counted : c.currentCount ≤ c.baseCount) :
    c.terminal.bound = c.bound ∧ c.terminal.direction = c.direction ∧ c.terminal.unit = c.unit ∧
    c.terminal.recordHandle = c.recordHandle ∧ c.terminal.currentCount ≤ c.terminal.baseCount ∧
    c.terminal.baseCount = c.baseCount := by
  unfold Channel.terminal
  split
  · exact ⟨rfl, rfl, rfl, rfl, le_rfl, rfl⟩
  · exact ⟨rfl, rfl, rfl, rfl, counted, rfl⟩

/-- The channel as the end of its unit leaves it, before a next unit starts (R153, steps 1 to 5). -/
def Channel.unitEnded (c : Channel) (length : Nat) : Channel :=
  if (c.stepped length).currentCount = 0 then (c.stepped length).terminal.applyStop else (c.stepped length).applyStop

theorem Channel.unitEnded_keeps (c : Channel) (length : Nat) (counted : c.currentCount ≤ c.baseCount) :
    (c.unitEnded length).bound = c.bound ∧ (c.unitEnded length).direction = c.direction ∧
    (c.unitEnded length).unit = none ∧ (c.unitEnded length).recordHandle = c.recordHandle ∧
    (c.unitEnded length).currentCount ≤ (c.unitEnded length).baseCount ∧
    (c.unitEnded length).baseCount = c.baseCount := by
  have stepped_counted : (c.stepped length).currentCount ≤ (c.stepped length).baseCount :=
    le_trans (Nat.sub_le _ _) counted
  unfold Channel.unitEnded
  split
  · obtain ⟨bound, direction, unit, record, current, base, _⟩ := (c.stepped length).terminal.applyStop_keeps
    obtain ⟨bound', direction', unit', record', current', base'⟩ := (c.stepped length).terminal_keeps stepped_counted
    rw [bound, direction, unit, record, current, base, bound', direction', unit', record', base']
    exact ⟨rfl, rfl, rfl, rfl, base' ▸ current', rfl⟩
  · obtain ⟨bound, direction, unit, record, current, base, _⟩ := (c.stepped length).applyStop_keeps
    rw [bound, direction, unit, record, current, base]
    exact ⟨rfl, rfl, rfl, rfl, stepped_counted, rfl⟩

/-- The unit of a channel that no sequencer carries out any more ends, and its memory access with it. -/
theorem State.ChannelLaws.endUnit {s : State} {c : ChannelId} (law : s.ChannelLaws)
    (apart : ∀ i d, (s.sequencer i).runsHalf ≠ some (c, d)) (active : (s.channel c).isActive = true) (l : Lines) :
    ((s.setMemory c none).endUnit c l).ChannelLaws := by
  obtain ⟨serves, _, record, _, current, base, _⟩ := law.sound c
  have ended (length : Nat) (u : EventUnit) :
      (((s.setMemory c none).setChannel c ((s.channel c).unitEnded length)).setEvents u).ChannelLaws := by
    have touch := ((s.touches_setMemory c none).trans
      (State.touches_setChannel _ c ((s.channel c).unitEnded length))).trans (State.touches_setEvents _ c u)
    obtain ⟨bound', direction', unit', record', current', base'⟩ := (s.channel c).unitEnded_keeps length current
    refine law.touched_apart touch apart ?_
    simp only [State.channel_setEvents, State.channel_setChannel, State.memoryRecord_setEvents,
      State.memoryRecord_setChannel, State.memoryRecord_setMemory, if_true]
    refine ⟨fun _ => ?_, fun busy => (by rw [unit'] at busy; cases busy), fun h bound => ?_, ?_, current', base' ▸ base, rfl⟩
    · unfold State.Serves
      rw [bound', direction']
      exact serves active
    · rw [record']
      exact record h (bound' ▸ bound)
    · rw [Channel.inMemoryHalf_of_no_unit unit']
      rfl
  unfold State.endUnit
  dsimp only
  rw [State.channel_setMemory]
  split
  next last =>
    have at_end := ended ((s.setMemory c none).boundLength c) (s.events.raise (Flag.channelDone c))
    simp only [Channel.unitEnded, last, if_true] at at_end
    exact at_end.startIfDue l
  next further =>
    have at_end := ended ((s.setMemory c none).boundLength c) s.events
    simp only [Channel.unitEnded, further, if_false] at at_end
    exact at_end.startIfDue l

/-! ## The requests, the request line and the interconnect's answer -/

theorem State.ChannelLaws.channelResult {s : State} (law : s.ChannelLaws) (c : ChannelId) (r : ChannelResult) :
    (s.channelResult c r).ChannelLaws :=
  law.setChannel_marks _ _ _ _ _ r

/-- A channel that is not active has no unit. -/
theorem State.ChannelLaws.no_unit_of_inactive {s : State} (law : s.ChannelLaws) {c : ChannelId}
    (inactive : (s.channel c).isActive ≠ true) : (s.channel c).unit = none :=
  (law.sound c).no_unit fun running => inactive ((Channel.isActive_iff _).2 (.inr (.inl running)))

theorem countOf_le (w : Word) : countOf w ≤ 65536 := by
  unfold countOf bits
  split <;> omega

theorem State.ChannelLaws.configure {s : State} (law : s.ChannelLaws) (c : ChannelId) : (s.configure c).ChannelLaws := by
  have loaded (inactive : (s.channel c).isActive ≠ true) (bound : Option Handle) (mode : Mode) (displacement : Nat) :
      (s.setChannel c ((s.channel c).configured (s.settings.get c) bound mode displacement)).ChannelLaws :=
    law.setChannel_idle (law.no_unit_of_inactive inactive) _ (law.no_unit_of_inactive inactive)
      (fun active => nomatch active) (fun h bound_to => by simp [Channel.configured] at bound_to ⊢; simp [bound_to]) le_rfl
      (countOf_le _)
  unfold State.configure
  dsimp only
  split
  · exact law.channelResult c _
  · split
    · exact law.channelResult c _
    next inactive =>
      split
      · exact loaded inactive _ _ _
      · split
        · exact law.channelResult c _
        · exact loaded inactive _ _ _

/-- An ARM that is accepted finds the channel IDLE, bound to an entry that serves it (R145). -/
theorem State.armDecision_ok {s : State} {c : ChannelId} (accepted : s.armDecision c = .ok) :
    (s.channel c).state = .idle ∧ s.Serves (s.channel c) := by
  unfold State.armDecision at accepted
  dsimp only at accepted
  split at accepted
  · cases accepted
  next idle =>
    refine ⟨not_not.1 idle, ?_⟩
    split at accepted
    · cases accepted
    next h bound =>
      split at accepted
      · cases accepted
      next live =>
        split at accepted
        · cases accepted
        next open_ =>
          refine ⟨h, bound, not_not.1 live, ?_⟩
          cases direction : (s.channel c).direction with
          | toMemory => exact .inl rfl
          | fromMemory =>
            cases access : (s.entry h).access with
            | readWrite => exact .inr rfl
            | readOnly => simp [direction, access] at open_

/-- A channel that an ARM has armed. -/
theorem State.ChannelLaws.armed {s : State} (law : s.ChannelLaws) {c : ChannelId} (accepted : s.armDecision c = .ok) :
    (s.setChannel c { s.channel c with state := .armed, lastResult := .ok }).ChannelLaws := by
  obtain ⟨idle, serves⟩ := State.armDecision_ok accepted
  obtain ⟨_, _, record, _, current, base, _⟩ := law.sound c
  have no_unit := (law.sound c).no_unit (by rw [idle]; decide)
  exact law.setChannel_idle no_unit _ no_unit (fun _ => serves) record current base

/-- A channel without a unit goes from one active state to another, or out of them. -/
theorem State.ChannelLaws.setState {s : State} (law : s.ChannelLaws) {c : ChannelId} (idle : (s.channel c).unit = none)
    (active : (s.channel c).isActive = true) (state : ChannelState) (due : Bool) (stop : StopPending)
    (resume : Option ResumeState) (result : ChannelResult) :
    (s.setChannel c
      { s.channel c with
        state := state, unitDue := due, stopPending := stop, resumeState := resume,
        lastResult := result }).ChannelLaws := by
  obtain ⟨serves, _, record, _, current, base, _⟩ := law.sound c
  exact law.setChannel_idle idle _ idle (fun _ => serves active) record current base

theorem State.ChannelLaws.pause {s : State} (law : s.ChannelLaws) (c : ChannelId) : (s.pause c).ChannelLaws := by
  unfold State.pause
  dsimp only
  split
  next armed =>
    exact law.setState ((law.sound c).no_unit (by rw [armed]; decide)) ((Channel.isActive_iff _).2 (.inl armed)) _ _ _ _ _
  next running idle => exact law.setState idle ((Channel.isActive_iff _).2 (.inr (.inl running))) _ _ _ _ _
  next =>
    unfold Channel.pauseLater
    split <;> exact law.setChannel_marks _ _ _ _ _ _
  all_goals exact law.channelResult c _

theorem State.ChannelLaws.cancel {s : State} (law : s.ChannelLaws) (c : ChannelId) : (s.cancel c).ChannelLaws := by
  unfold State.cancel
  dsimp only
  split
  next armed =>
    exact law.setState ((law.sound c).no_unit (by rw [armed]; decide)) ((Channel.isActive_iff _).2 (.inl armed)) _ _ _ _ _
  next paused =>
    exact law.setState ((law.sound c).no_unit (by rw [paused]; decide)) ((Channel.isActive_iff _).2 (.inr (.inr paused)))
      _ _ _ _ _
  next running idle => exact law.setState idle ((Channel.isActive_iff _).2 (.inr (.inl running))) _ _ _ _ _
  next => exact law.setChannel_marks _ _ _ _ _ _
  all_goals exact law.channelResult c _

theorem State.ChannelLaws.takeAssertion {s : State} (law : s.ChannelLaws) (c : ChannelId) :
    (s.takeAssertion c).ChannelLaws := by
  unfold State.takeAssertion
  dsimp only
  split
  · split
    · split
      next may => exact law.startUnit_of_mayStart may
      · exact law.setChannel_marks _ _ _ _ _ _
    · split
      next may => exact law.startUnit_of_mayStart may
      · exact law
    · split
      next may => exact law.startUnit_of_mayStart (Bool.and_eq_true_iff.1 may).1
      · exact law
  · exact law

theorem State.touches_takeAssertion (s : State) (c : ChannelId) : s.Touches (s.takeAssertion c) c := by
  unfold State.takeAssertion
  dsimp only
  split
  · split
    · split
      · exact s.touches_startUnit c
      · exact s.touches_setChannel c _
    · split
      · exact s.touches_startUnit c
      · exact .refl s c
    · split
      · exact s.touches_startUnit c
      · exact .refl s c
  · exact .refl s c

theorem State.touches_offerAssertion (s : State) (i : SlotId) (c : ChannelId) : s.Touches (s.offerAssertion i c) c := by
  unfold State.offerAssertion
  split
  · exact s.touches_takeAssertion c
  · exact .refl s c

/-- An assertion offered to channels in turn changes channels, memory records and events, and keeps the laws. -/
theorem State.foldl_offerAssertion (channels : List ChannelId) (s : State) (i : SlotId) :
    (∃ ch m u, channels.foldl (fun t c => t.offerAssertion i c) s = { s with channels := ch, memory := m, events := u }) ∧
    (s.ChannelLaws → (channels.foldl (fun t c => t.offerAssertion i c) s).ChannelLaws) := by
  induction channels generalizing s with
  | nil => exact ⟨⟨_, _, _, rfl⟩, id⟩
  | cons c rest ih =>
    obtain ⟨⟨ch', m', u', others⟩, laws⟩ := ih (s.offerAssertion i c)
    rw [List.foldl_cons]
    refine ⟨⟨ch', m', u', by rw [others, (s.touches_offerAssertion i c).frame]⟩, fun law => laws ?_⟩
    unfold State.offerAssertion
    split
    · exact law.takeAssertion c
    · exact law

theorem State.memoryDone_frame (s : State) (c : ChannelId) (m : MemoryAccess) (data : BitVec 16) (l : Lines) :
    ∃ ch mem u, s.memoryDone c m data l = { s with channels := ch, memory := mem, events := u } := by
  unfold State.memoryDone
  dsimp only
  split
  · exact ⟨_, _, _, rfl⟩
  · split
    · exact ⟨_, _, _, rfl⟩
    · obtain ⟨ch, mem, u, frame⟩ := (s.setMemory c none).endUnit_frame c l
      exact ⟨ch, mem, u, frame⟩

/-- A channel that holds a memory access has a unit in its memory half, and is RUNNING (R104, R152). -/
theorem State.ChannelLaws.unit_of_memory {s : State} (law : s.ChannelLaws) {c : ChannelId} {m : MemoryAccess}
    (held : s.memoryRecord c = some m) :
    (s.channel c).inMemoryHalf = true ∧ (s.channel c).state = .running ∧ ∃ u, (s.channel c).unit = some u := by
  obtain ⟨_, unit, _, memory, _⟩ := law.sound c
  rw [held] at memory
  have half : (s.channel c).inMemoryHalf = true := memory.symm
  cases h : (s.channel c).unit with
  | none => rw [Channel.inMemoryHalf_of_no_unit h] at half; cases half
  | some u => exact ⟨half, unit (by rw [h]; rfl), u, rfl⟩

theorem State.ChannelLaws.memoryDone {s : State} (law : s.ChannelLaws) {c : ChannelId} {m : MemoryAccess}
    (held : s.memoryRecord c = some m) (data : BitVec 16) (l : Lines) : (s.memoryDone c m data l).ChannelLaws := by
  obtain ⟨half, running, u, unit⟩ := law.unit_of_memory held
  have apart := law.not_run (Channel.inBegunHalf_of_inMemoryHalf half)
  unfold State.memoryDone
  dsimp only
  rw [unit]
  dsimp only
  split
  · obtain ⟨serves, _, record, _, current, base, _⟩ := law.sound c
    refine law.touched_apart ((s.touches_setMemory c none).trans (State.touches_setChannel _ c _)) apart ?_
    simp only [State.channel_setChannel, State.memoryRecord_setChannel, State.memoryRecord_setMemory, if_true]
    exact ⟨serves, fun _ => running, record, rfl, current, base, rfl⟩
  · exact law.endUnit apart ((Channel.isActive_iff _).2 (.inr (.inl running))) l

/-- A memory access issued again, once more than before (R105). -/
theorem State.ChannelLaws.issueAgain {s : State} (law : s.ChannelLaws) {c : ChannelId} {m : MemoryAccess}
    (held : s.memoryRecord c = some m) (few : m.retries < Config.retryMax) :
    (s.issueMemory c { m with retries := m.retries + 1 }).ChannelLaws := by
  obtain ⟨half, running, u, unit⟩ := law.unit_of_memory held
  obtain ⟨serves, _, record, _, current, base, _⟩ := law.sound c
  have u_half : u.half = .memoryHalf := by
    unfold Channel.inMemoryHalf at half
    rw [unit] at half
    simpa using half
  have issued := law.issueHalf (law.not_run (Channel.inBegunHalf_of_inMemoryHalf half)) (s.channel c) u
    { m with retries := m.retries + 1 } unit u_half running
    (serves ((Channel.isActive_iff _).2 (.inr (.inl running)))) record current base few
  rwa [State.setChannel_self] at issued

end Sys2Proof.Machine

/-! What a law between steps needs, said once: a property of the state that every command keeps, when the handful of
operations that commands are made of keep it. The laws of the slots, the table, the work in flight, the posting units and
the channels are each shown to be such a property. -/

namespace Sys2Proof.Machine

/-! ## The changes of a slot controller and of an entry -/

/-- Slot controller `x` follows `c` without a session end: it is lawful if `c` was, and a session goes on under its epoch. -/
structure SlotController.Follows (c x : SlotController) : Prop where
  lawful : c.Lawful → x.Lawful
  session : c.Lawful → c.state = .active → x.state = .active ∧ x.identity.epoch = c.identity.epoch

/-- Entry `e` is `old` with fields rewritten that neither its range nor its state, session and count are (R75, R83). -/
structure Entry.Rewrites (old e : Entry) : Prop where
  state : e.state = old.state
  slot : e.slot = old.slot
  space : e.space = old.space
  first : e.firstGranule = old.firstGranule
  count : e.granuleCount = old.granuleCount
  epoch : e.boundEpoch = old.boundEpoch
  inFlight : e.inFlight = old.inFlight
  free : old = Entry.free → e = Entry.free

/-- What of a sequencer the other blocks rest on: the source and the direction of its access. -/
def Sequencer.carried (q : Sequencer) : Option (AccessSource × Direction) := q.access.map fun a => (a.source, a.direction)

/-- The state with the slot controllers given and every block that has soft reset values at them. -/
def State.blank (s : State) (q : Quad SlotController) : State :=
  { s with
    slots := q, table := Table.initial, posting := Quad.all PostingUnit.initial,
    sequencers := Quad.all Sequencer.initial, memory := Quad.all none, channels := Quad.all Channel.initial }

/-- The entries and channels after a SWEEP that is not refused (R87). -/
def State.sweptAt (s : State) (i : SlotId) : State :=
  { s with table := s.table.mapEntries (fun e => if e.isOf i then e.swept else e) }.unbindWhere
    (fun h => (s.entry h).isOf i && (s.entry h).sweptFree)

/-- A channel that blocks a table command on a handle (R69). -/
abbrev State.Blocks (s : State) (h : Handle) (c : ChannelId) : Prop :=
  (s.channel c).bound = some h ∧ (s.channel c).isActive = true

/-- A property of the state that the operations keep of which commands are made. It reads neither the registers nor the
event unit. -/
structure State.Kept (P : State → Prop) : Prop where
  plain {s : State} (port : Port) (retired : Word) (command : CommandPort) (limit : Nat)
    (settings : Quad ChannelSettings) (events : EventUnit) (answer : Option Answer) (pending : List Instr) : P s →
    P { s with
      port := port, retired := retired, command := command, collectionLimit := limit, settings := settings,
      events := events, answer := answer, pending := pending }
  channels {s t : State} : P s → t = { s with channels := t.channels, memory := t.memory, events := t.events } →
    (s.ChannelLaws → t.ChannelLaws) → P t
  sequencers {s : State} (q : Quad Sequencer) : P s → (∀ i, (q.get i).carried = (s.sequencer i).carried) →
    P { s with sequencers := q }
  slot {s : State} (i : SlotId) (x : SlotController) : P s → (s.slot i).Follows x → P (s.setSlot i x)
  session {s : State} (i : SlotId) (x : SlotController) (e : SessionEnd) : P s → (s.slot i).state = .active →
    x.state ≠ .active → ((s.slot i).Lawful → x.Lawful) → e.slot = i → e.cause ≠ .softReset →
    P ((s.setSlot i x).endSession e)
  blank {s : State} (q : Quad SlotController) : P s → (∀ i, (s.slot i).Lawful → (q.get i).Lawful) → P (s.blank q)
  channelClear {s : State} (l : Lines) : P s → P (s.channelClear l)
  choose {s : State} (i : SlotId) (l : Lines) : P s → P (s.choose i l)
  create {s : State} (h : Handle) (e : Entry) : P s → (s.entry h).state = .free → e.state = .staged → e.inFlight = 0 →
    e.validRange = true →
    (∀ k, (s.entry k).state ≠ .free →
      rangesShare e.firstGranule e.granuleCount (s.entry k).firstGranule (s.entry k).granuleCount = false) →
    P (s.setEntry h e)
  rewrite {s : State} (h : Handle) (e : Entry) : P s → (s.entry h).Rewrites e →
    (∀ c, s.Blocks h c → (s.channel c).direction = .fromMemory → e.access = .readOnly →
      (s.entry h).access = .readOnly) →
    P (s.setEntry h e)
  bind {s : State} (h : Handle) : P s → (s.entry h).state = .staged ∨ (s.entry h).state = .orphaned →
    (s.slot (s.entry h).slot).state = .active → P (s.setEntry h ((s.entry h).bindTo (s.entryEpoch (s.entry h))))
  fence {s : State} (h : Handle) : P s → (s.entry h).state = .live → (s.entry h).inFlight ≠ 0 →
    (∀ c, ¬s.Blocks h c) → P (s.setEntry h { s.entry h with state := .fenced })
  release {s : State} (h : Handle) : P s →
    (s.entry h).state = .staged ∨ (s.entry h).state = .orphaned ∨
      ((s.entry h).state = .live ∧ (s.entry h).inFlight = 0) →
    (∀ c, ¬s.Blocks h c) → P ((s.setEntry h Entry.free).unbindWhere (fun k => k == h))
  sweep {s : State} (i : SlotId) : P s → (∀ h c, (s.entry h).isOf i = true → ¬s.Blocks h c) → P (s.sweptAt i)
  append {s : State} (h : Handle) (item : QueueItem) : P s → (s.entry h).state = .live → item.target.handle = h →
    (s.postingUnit (s.entry h).slot).queue.length < Config.queueSize →
    P ((s.setPosting (s.entry h).slot ((s.postingUnit (s.entry h).slot).append item)).acceptThrough h)
  hold {s : State} (h : Handle) (r : HeldRead) : P s → (s.entry h).state = .live → r.target.handle = h →
    r.state = .waiting (s.postingUnit (s.entry h).slot).queue.length →
    (s.postingUnit (s.entry h).slot).holder = none →
    P ((s.setPosting (s.entry h).slot { s.postingUnit (s.entry h).slot with holder := some r }).acceptThrough h)
  completion {s : State} (i : SlotId) (a : BusAccess) (l : Lines) : P s → (s.sequencer i).access = some a →
    P ((s.freeSequencer i).reportCompletion i a l)
  timeout {s : State} (i : SlotId) (a : BusAccess) : P s → (s.sequencer i).access = some a →
    P ((s.freeSequencer i).reportTimeout i a)
  collect {s : State} (i : SlotId) (r : HeldRead) : P s → (s.postingUnit i).holder = some r → r.finished = true →
    P (s.emptyHolder i r)
  discarded {s : State} (i : SlotId) : P s → P (s.clearDiscarded i)

/-! ## Blocked commands (R69) -/

theorem mem_fourIds (c : Fin 4) : c ∈ fourIds := by
  revert c; decide

/-- A search for a blocking channel that finds none. -/
theorem State.not_blocked_of_activeBound {s : State} {h : Handle} {p : Channel → Bool} (none_found : s.activeBound h p = none)
    (c : ChannelId) (blocks : s.Blocks h c) : p (s.channel c) = false := by
  unfold State.activeBound at none_found
  rw [List.find?_eq_none] at none_found
  have found := none_found c (mem_fourIds c)
  obtain ⟨bound, active⟩ := blocks
  simpa [bound, active] using found

/-- A search for a channel that blocks a SWEEP and finds none. -/
theorem State.not_blocked_of_sweepBlocker {s : State} {i : SlotId} (none_found : s.sweepBlocker i = none) (h : Handle)
    (c : ChannelId) (of_slot : (s.entry h).isOf i = true) : ¬s.Blocks h c := by
  intro blocks
  unfold State.sweepBlocker at none_found
  rw [List.findSome?_eq_none_iff] at none_found
  have found := none_found h (List.mem_finRange h)
  rw [if_pos of_slot, Option.map_eq_none_iff] at found
  cases State.not_blocked_of_activeBound found c blocks

/-! ## Slot controllers: what follows what -/

/-- The state that a timer runs in (01, 1.1; 02, 2.1). -/
def TimerKind.state : TimerKind → SlotState
  | .settle => .settling
  | .powerGoodLimit => .powering
  | .resetPulse => .resetting
  | .readyLimit => .resetting

theorem SlotController.state_of_timer {c : SlotController} {k : TimerKind} (lawful : c.Lawful) (runs : c.timerIs k = true) :
    c.state = k.state := by
  obtain ⟨_, _, fits, _⟩ := lawful
  unfold SlotController.timerIs at runs
  cases timer : c.timer with
  | stopped =>
    rw [timer] at runs
    cases runs
  | running j n =>
    rw [timer] at runs fits
    obtain rfl : j = k := by simpa using runs
    cases state : c.state <;> cases j <;> simp_all [SlotTimer.fits, TimerKind.state]

section
variable {c : SlotController}

/-- A controller that is not ACTIVE has no session to keep. -/
theorem SlotController.Follows.of_inactive {x : SlotController} (lawful : c.Lawful → x.Lawful)
    (inactive : c.Lawful → c.state ≠ .active) : c.Follows x :=
  ⟨lawful, fun law active => (inactive law active).elim⟩

/-- The last request result and the configuration are no matter of the law. -/
theorem SlotController.follows_marks (r : SlotResult) (g : SlotConfig) :
    c.Follows { c with lastResult := r, config := g } :=
  ⟨fun law => law, fun _ active => ⟨active, rfl⟩⟩

/-- A presence change leaves a lawful controller, whatever it finds (R3 to R8). -/
theorem SlotController.lawful_afterPresence (k : Contact) : (c.afterPresence k).Lawful := by
  unfold SlotController.afterPresence
  dsimp only
  cases (c.contacts.toggle k).a || (c.contacts.toggle k).b <;>
    simp [SlotController.Lawful, SlotState.switchOn, SlotState.powered, SlotTimer.fits, SlotController.classAccepted]

theorem SlotController.lawful_startProbing (from_ : c.state = .settling ∨ c.state = .identified ∨ c.state = .unrecognized)
    (law : c.Lawful) : c.startProbing.Lawful := by
  obtain ⟨switch, reset, timer, probing, fault, supply, identity, accepted⟩ := law
  rcases from_ with state | state | state <;>
    simp_all [SlotController.Lawful, SlotController.startProbing, SlotState.switchOn, SlotState.powered, SlotTimer.fits,
      SlotController.classAccepted]

theorem SlotController.lawful_misseated (from_ : c.state = .settling) (law : c.Lawful) :
    { c with state := .misseated, timer := .stopped }.Lawful := by
  obtain ⟨switch, reset, timer, probing, fault, supply, identity, accepted⟩ := law
  simp_all [SlotController.Lawful, SlotState.switchOn, SlotState.powered, SlotTimer.fits, SlotController.classAccepted]

/-- No timer runs in PROBING: a round's moments come with their own rows. -/
theorem SlotTimer.stopped_of_fits_probing {t : SlotTimer} (fits : t.fits .probing = true) : t = .stopped := by
  cases t with
  | stopped => rfl
  | running k n => cases fits

/-- Probing progress is that of PROBING. -/
theorem SlotController.state_of_probing {p : Probing} (law : c.Lawful) (runs : c.probing = some p) :
    c.state = .probing := by
  obtain ⟨_, _, _, probing, _⟩ := law
  exact probing.1 (by rw [runs]; rfl)

theorem SlotController.lawful_sampled (p p' : Probing) (high : Bool) (runs : c.probing = some p) (law : c.Lawful) :
    { c with probing := some p', probeHigh := high }.Lawful := by
  obtain ⟨switch, reset, timer, probing, rest⟩ := law
  exact ⟨switch, reset, timer, ⟨fun _ => probing.1 (by rw [runs]; rfl), fun _ => rfl⟩, rest⟩

theorem SlotController.lawful_endProbing (code : Nat) (p : Probing) (runs : c.probing = some p) (law : c.Lawful) :
    (c.endProbing code).Lawful := by
  have state := c.state_of_probing law runs
  obtain ⟨switch, reset, timer, probing, fault, supply, identity, accepted⟩ := law
  have stopped : c.timer = .stopped := SlotTimer.stopped_of_fits_probing (state ▸ timer)
  unfold SlotController.endProbing
  cases probeTable code <;>
    simp_all [SlotController.Lawful, SlotState.switchOn, SlotState.powered, SlotTimer.fits, SlotController.classAccepted]

theorem SlotController.lawful_badSupply (result : SlotResult) (from_ : c.state = .identified) (law : c.Lawful) :
    { c with lastResult := result, badSupply := true }.Lawful := by
  obtain ⟨switch, reset, timer, probing, fault, supply, rest⟩ := law
  exact ⟨switch, reset, timer, probing, fault, fun powered => (by rw [from_] at powered; cases powered), rest⟩

theorem SlotController.lawful_powerUp (k : SupplyClass) (from_ : c.state = .identified) (accepts : c.identity.accepts k = true)
    (law : c.Lawful) : (c.powerUp k).Lawful := by
  obtain ⟨switch, reset, timer, probing, fault, supply, identity, accepted⟩ := law
  simp_all [SlotController.Lawful, SlotController.powerUp, SlotState.switchOn, SlotState.powered, SlotTimer.fits,
    SlotController.classAccepted, SlotController.timerIs]

theorem SlotController.lawful_startReset (from_ : c.state = .powering) (law : c.Lawful) : c.startReset.Lawful := by
  obtain ⟨switch, reset, timer, probing, fault, supply, identity, accepted⟩ := law
  unfold SlotController.classAccepted at accepted
  simp_all [SlotController.Lawful, SlotController.startReset, SlotState.switchOn, SlotState.powered, SlotTimer.fits,
    SlotController.classAccepted, SlotController.timerIs]

theorem SlotController.lawful_pulseEnded (n : Nat) (from_ : c.state = .resetting) (law : c.Lawful) :
    { c with resetAsserted := false, timer := .running .readyLimit n }.Lawful := by
  obtain ⟨switch, reset, timer, probing, fault, supply, identity, accepted⟩ := law
  simp_all [SlotController.Lawful, SlotState.switchOn, SlotState.powered, SlotTimer.fits, SlotController.classAccepted,
    SlotController.timerIs]

theorem SlotController.lawful_active (from_ : c.state = .resetting) (law : c.Lawful) :
    { c with state := .active, timer := .stopped, resetAsserted := false }.Lawful := by
  obtain ⟨switch, reset, timer, probing, fault, supply, identity, accepted⟩ := law
  simp_all [SlotController.Lawful, SlotState.switchOn, SlotState.powered, SlotTimer.fits, SlotController.classAccepted]

/-- A fault leaves a lawful controller where the power is on (R32). -/
theorem SlotController.lawful_faulted (k : FaultKind) (from_ : c.state.switchOn = true) (law : c.Lawful) :
    { c.switchedOff with state := .faulted, faultKind := some k }.Lawful := by
  obtain ⟨switch, reset, timer, probing, fault, supply, identity, accepted⟩ := law
  cases state : c.state <;>
    simp_all [SlotController.Lawful, SlotController.switchedOff, SlotState.switchOn, SlotState.powered, SlotTimer.fits,
      SlotController.classAccepted]

/-- The switch goes off and the slot is IDENTIFIED (R24, R39). -/
theorem SlotController.lawful_off (result : SlotResult) (from_ : c.state.powered = true) (law : c.Lawful) :
    { c.switchedOff with state := .identified, faultKind := none, lastResult := result }.Lawful := by
  obtain ⟨switch, reset, timer, probing, fault, supply, identity, accepted⟩ := law
  cases state : c.state <;>
    simp_all [SlotController.Lawful, SlotController.switchedOff, SlotState.switchOn, SlotState.powered, SlotTimer.fits,
      SlotController.classAccepted]

theorem SlotController.lawful_softReset (law : c.Lawful) : c.softReset.Lawful := by
  rw [SlotController.softReset_eq]
  split
  next powered => exact SlotController.lawful_off c.lastResult powered law
  · exact law

theorem SlotController.lawful_initial (contacts : Contacts) : (SlotController.initial contacts).Lawful := by
  unfold SlotController.initial
  cases contacts.a || contacts.b <;>
    simp [SlotController.Lawful, SlotState.switchOn, SlotState.powered, SlotTimer.fits, SlotController.classAccepted]

end

end Sys2Proof.Machine

/-! Every command keeps a property that the operations keep: the commands are taken apart into those operations once, here. -/

namespace Sys2Proof.Machine

/-! ## What a module cycle leaves of an access -/

theorem Sequencer.carried_sampled (q : Sequencer) (waiting : Bool) (lines : BitVec 16) :
    (q.sampled waiting lines).carried = q.carried := by
  unfold Sequencer.sampled
  split
  · rfl
  next a running =>
    split
    · rfl
    · rfl
    · split <;> simp [Sequencer.carried, running, BusAccess.strobeEnded]

theorem Sequencer.carried_cycleEnded (q : Sequencer) : q.cycleEnded.carried = q.carried := by
  unfold Sequencer.cycleEnded
  split
  · rfl
  next a running => split <;> simp [Sequencer.carried, running, BusAccess.nextCycle]

theorem BusAccess.tick_keeps (a : BusAccess) : a.tick.source = a.source ∧ a.tick.direction = a.direction := by
  unfold BusAccess.tick
  split
  · split <;> exact ⟨rfl, rfl⟩
  · exact ⟨rfl, rfl⟩
  · exact ⟨rfl, rfl⟩

/-- One period at a sequencer. -/
theorem State.sequencer_tick (s : State) (i : SlotId) :
    s.tick.sequencer i = { s.sequencer i with access := (s.sequencer i).access.map BusAccess.tick } := Quad.get_map _ _ _

namespace State.Kept

variable {P : State → Prop} (K : State.Kept P) {s : State}
include K

/-! ## Operations made of those given -/

theorem setEvents (u : EventUnit) (h : P s) : P (s.setEvents u) :=
  K.plain s.port s.retired s.command s.collectionLimit s.settings u s.answer s.pending h

theorem answered (a : Answer) (h : P s) : P (s.answered a) :=
  K.plain s.port s.retired s.command s.collectionLimit s.settings s.events (some a) s.pending h

theorem raise (f : Flag) (h : P s) : P (s.raise f) := K.setEvents _ h

theorem settle (h : P s) : P s.settle := K.setEvents _ h

theorem offer (o : FaultOffer) (h : P s) : P (s.offer o) := K.setEvents _ h

theorem offerAny (o : Option FaultOffer) (h : P s) : P (s.offerAny o) := by
  cases o with
  | none => exact h
  | some f => exact K.offer f h

theorem complete (code : ResultCode) (words : Quad Word) (h : P s) : P (s.complete code words) :=
  K.settle (K.raise Flag.commandDone
    (K.plain s.port s.retired { s.command with executing := none, resultCode := code, results := words }
      s.collectionLimit s.settings s.events s.answer s.pending h))

theorem chooseFor (c : ChannelId) (l : Lines) (h : P s) : P (s.chooseFor c l) := by
  unfold State.chooseFor
  split
  · exact h
  · exact K.choose _ l h

theorem afterUnits (c : ChannelId) (l : Lines) (h : P s) : P (s.afterUnits c l) := K.settle (K.chooseFor c l h)

theorem setSequencer (i : SlotId) (q : Sequencer) (same : q.carried = (s.sequencer i).carried) (h : P s) :
    P (s.setSequencer i q) := by
  refine K.sequencers _ h fun j => ?_
  rw [Quad.get_set]
  split
  next at_i => rw [at_i, same]
  · rfl

/-- A channel's own operation, by its frame and what it does to the laws of the channels. -/
theorem channel {t : State} {c : ChannelId} (touch : s.Touches t c) (laws : s.ChannelLaws → t.ChannelLaws) (h : P s) : P t :=
  K.channels h touch.frame laws

theorem channelResult (c : ChannelId) (r : ChannelResult) (h : P s) : P (s.channelResult c r) :=
  K.channel (s.touches_setChannel c _) (fun law => law.channelResult c r) h

/-- A slot leaves ACTIVE with a flag of its own raised (R36). -/
theorem leaveSession (i : SlotId) (x : SlotController) (f : Flag) (e : SessionEnd) (active : (s.slot i).state = .active)
    (out : x.state ≠ .active) (lawful : (s.slot i).Lawful → x.Lawful) (slot : e.slot = i) (hard : e.cause ≠ .softReset)
    (h : P s) : P (((s.setSlot i x).raise f).endSession e) :=
  K.session (s := s.raise f) i x e (K.raise f h) active out lawful slot hard

theorem enterFaulted (i : SlotId) (k : FaultKind) (on : (s.slot i).Lawful → (s.slot i).state.switchOn = true) (h : P s) :
    P (s.enterFaulted i k) := by
  have lawful (law : (s.slot i).Lawful) := SlotController.lawful_faulted k (on law) law
  unfold State.enterFaulted
  dsimp only
  split
  next active => exact K.leaveSession i _ _ _ active (by simp) lawful rfl (by simp) h
  next inactive => exact K.raise _ (K.slot i _ h (.of_inactive lawful fun _ => inactive))

theorem goActive (i : SlotId) (l : Lines) (from_ : (s.slot i).Lawful → (s.slot i).state = .resetting) (h : P s) :
    P (s.goActive i l) :=
  K.setEvents _ (K.raise _ (K.slot i _ h (.of_inactive (fun law => SlotController.lawful_active (from_ law) law)
    fun law => by rw [from_ law]; decide)))

theorem slotResult (i : SlotId) (r : SlotResult) (h : P s) : P (s.slotResult i r) :=
  K.slot i _ h (SlotController.follows_marks r _)

/-! ## The commands of the slot controllers -/

theorem presenceChange (i : SlotId) (k : Contact) (h : P s) : P (s.presenceChange i k) := by
  have lawful := SlotController.lawful_afterPresence (c := s.slot i) k
  have out : ((s.slot i).afterPresence k).state ≠ .active := by
    unfold SlotController.afterPresence
    dsimp only
    split <;> decide
  refine K.settle ?_
  split
  next active => exact K.leaveSession i _ _ _ active out (fun _ => lawful) rfl (by simp) h
  next inactive => exact K.raise _ (K.slot i _ h (.of_inactive (fun _ => lawful) fun _ => inactive))

theorem settleExpiry (i : SlotId) (h : P s) : P (s.settleExpiry i) := by
  unfold State.settleExpiry
  dsimp only
  split
  next runs =>
    have settling (law : (s.slot i).Lawful) : (s.slot i).state = .settling := SlotController.state_of_timer law runs
    have inactive (law : (s.slot i).Lawful) : (s.slot i).state ≠ .active := by rw [settling law]; decide
    split
    · exact K.slot i _ h
        (.of_inactive (fun law => SlotController.lawful_startProbing (.inl (settling law)) law) inactive)
    · split
      · exact K.slot i _ h (.of_inactive (fun law => SlotController.lawful_misseated (settling law) law) inactive)
      · exact h
  · exact h

theorem probeLowSample (i : SlotId) (k1 k2 : Bool) (h : P s) : P (s.probeLowSample i k1 k2) := by
  unfold State.probeLowSample
  dsimp only
  split
  · exact h
  next p runs =>
    split
    · exact h
    · exact K.slot i _ h (.of_inactive (SlotController.lawful_sampled p _ _ runs)
        fun law => by rw [SlotController.state_of_probing law runs]; decide)

theorem identificationRoundEnd (i : SlotId) (k1 k2 : Bool) (h : P s) : P (s.identificationRoundEnd i k1 k2) := by
  unfold State.identificationRoundEnd
  dsimp only
  split
  · exact h
  next p runs =>
    have inactive (law : (s.slot i).Lawful) : (s.slot i).state ≠ .active := by
      rw [SlotController.state_of_probing law runs]; decide
    split
    · exact h
    · split
      · exact K.settle (K.raise _ (K.slot i _ h (.of_inactive (SlotController.lawful_endProbing _ p runs) inactive)))
      · exact K.slot i _ h (.of_inactive (SlotController.lawful_sampled p _ _ runs) inactive)

theorem supply (i : SlotId) (k : SupplyClass) (l : Lines) (h : P s) : P (s.supply i k l) := by
  unfold State.supply
  dsimp only
  split
  next identified =>
    have inactive (_ : (s.slot i).Lawful) : (s.slot i).state ≠ .active := by rw [identified]; decide
    split
    next accepts =>
      have powered := K.slot i _ h (.of_inactive (SlotController.lawful_powerUp k identified accepts) inactive)
      have powering : ((s.setSlot i ((s.slot i).powerUp k)).slot i).state = .powering := by
        rw [State.slot_setSlot, if_pos rfl]
        rfl
      unfold State.watchPowering
      split
      · exact K.settle (K.enterFaulted i _ (fun _ => by rw [powering]; rfl) powered)
      · split
        · exact K.slot i _ powered (.of_inactive (SlotController.lawful_startReset powering)
            fun _ => by rw [powering]; decide)
        · exact powered
    · exact K.settle (K.raise _ (K.slot i _ h (.of_inactive (SlotController.lawful_badSupply _ identified) inactive)))
  all_goals exact K.slotResult i _ h

/-- SUPPLY OFF finds the switch on outside ACTIVE (R24). -/
theorem switchOff (i : SlotId) (r : SlotResult) (from_ : (s.slot i).state = .powering ∨ (s.slot i).state = .resetting)
    (h : P s) : P (s.setSlot i { (s.slot i).switchedOff with state := .identified, lastResult := r }) := by
  have powered : (s.slot i).state.powered = true := by rcases from_ with state | state <;> rw [state] <;> rfl
  have faultless (law : (s.slot i).Lawful) : (s.slot i).faultKind = none := by
    obtain ⟨_, _, _, _, fault, _⟩ := law
    rcases from_ with state | state <;> simpa [state] using fault
  refine K.slot i _ h (.of_inactive (fun law => ?_) fun _ => by rcases from_ with state | state <;> rw [state] <;> decide)
  have off := SlotController.lawful_off r powered law
  rw [← faultless law] at off
  exact off

theorem supplyOff (i : SlotId) (h : P s) : P (s.supplyOff i) := by
  unfold State.supplyOff
  dsimp only
  split
  next powering => exact K.switchOff i _ (.inl powering) h
  next resetting => exact K.switchOff i _ (.inr resetting) h
  next active =>
    refine K.settle (K.session i _ _ h active (by simp) (fun law => ?_) rfl (by simp))
    have faultless : (s.slot i).faultKind = none := by
      obtain ⟨_, _, _, _, fault, _⟩ := law
      simpa [active] using fault
    have off := SlotController.lawful_off .ok (by rw [active]; rfl) law
    rw [← faultless] at off
    exact off
  next faulted =>
    refine K.slot i _ h (.of_inactive (fun law => ?_) fun _ => by rw [faulted]; decide)
    obtain ⟨switch, reset, timer, probing, fault, supply, identity, accepted⟩ := law
    cases running : (s.slot i).timer <;>
      simp_all [SlotController.Lawful, SlotState.switchOn, SlotState.powered, SlotTimer.fits, SlotController.classAccepted]
  all_goals exact K.slotResult i _ h

theorem probe (i : SlotId) (h : P s) : P (s.probe i) := by
  have started (from_ : (s.slot i).state = .identified ∨ (s.slot i).state = .unrecognized) :
      P (s.setSlot i { (s.slot i).startProbing with lastResult := .ok }) :=
    K.slot i _ h (.of_inactive (fun law => SlotController.lawful_startProbing (c := s.slot i) (.inr from_) law)
      fun _ => by rcases from_ with state | state <;> rw [state] <;> decide)
  unfold State.probe
  dsimp only
  split
  next identified => exact started (.inl identified)
  next unrecognized => exact started (.inr unrecognized)
  all_goals exact K.slotResult i _ h

theorem powerGoodAssertion (i : SlotId) (h : P s) : P (s.powerGoodAssertion i) := by
  unfold State.powerGoodAssertion
  split
  next powering =>
    exact K.slot i _ h (.of_inactive (SlotController.lawful_startReset powering) fun _ => by rw [powering]; decide)
  · exact h

theorem resetPulseExpiry (i : SlotId) (l : Lines) (h : P s) : P (s.resetPulseExpiry i l) := by
  unfold State.resetPulseExpiry
  dsimp only
  split
  next runs =>
    have resetting (law : (s.slot i).Lawful) : (s.slot i).state = .resetting := SlotController.state_of_timer law runs
    have released := K.slot i
      { s.slot i with resetAsserted := false, timer := .running .readyLimit (s.slot i).config.readyInterval } h
      (.of_inactive (fun law => SlotController.lawful_pulseEnded _ (resetting law) law)
        fun law => by rw [resetting law]; decide)
    split
    · refine K.settle (K.goActive i l (fun law => SlotController.state_of_timer (k := .readyLimit) law ?_) released)
      rw [State.slot_setSlot, if_pos rfl]
      rfl
    · exact released
  · exact h

theorem powerGoodLoss (i : SlotId) (h : P s) : P (s.powerGoodLoss i) := by
  unfold State.powerGoodLoss
  split
  next resetting => exact K.settle (K.enterFaulted i _ (fun _ => by rw [resetting]; rfl) h)
  next active => exact K.settle (K.enterFaulted i _ (fun _ => by rw [active]; rfl) h)
  · exact h

/-! ## The completions of the table commands -/

theorem completeCreate (a : CreateArgs) (h : P s) : P (s.completeCreate a) := by
  unfold State.completeCreate
  split
  next space width access _ _ _ =>
    split
    · exact K.complete _ _ h
    · split
      · exact K.complete _ _ h
      next valid =>
        split
        · exact K.complete _ _ h
        next short =>
          split
          · exact K.complete _ _ h
          next unused =>
            split
            · exact K.complete _ _ h
            next clear =>
              refine K.complete _ _ (K.create a.handle _ h (not_not.1 unused) rfl rfl ?_ fun k occupied => ?_)
              · have range : validRange a.firstGranule a.granuleCount = true := by simpa using valid
                obtain ⟨one_le, _, sum_le⟩ := (validRange_iff _ _).1 range
                cases space <;>
                  simp_all [Entry.validRange, CreateArgs.entry, Config.granules]
              · by_contra shares
                have conflict : k ∈ s.conflicts a.firstGranule a.granuleCount := by
                  unfold State.conflicts
                  rw [List.mem_filter]
                  have shared : rangesShare a.firstGranule a.granuleCount (s.entry k).firstGranule
                      (s.entry k).granuleCount = true := Bool.eq_true_of_not_eq_false shares
                  exact ⟨List.mem_finRange k, by simp [occupied, shared]⟩
                rw [clear] at conflict
                cases conflict
  · exact K.complete _ _ h

theorem completeActivate (k : Handle) (h : P s) : P (s.completeActivate k) := by
  unfold State.completeActivate
  dsimp only
  split
  · exact K.complete _ _ h
  next staged =>
    split
    · exact K.complete _ _ h
    next active =>
      split
      · exact K.complete _ _ h
      · exact K.complete _ _ (K.bind k h (.inl (not_not.1 staged)) (not_not.1 active))

theorem completeRebind (k : Handle) (h : P s) : P (s.completeRebind k) := by
  unfold State.completeRebind
  dsimp only
  split
  · exact K.complete _ _ h
  next orphaned =>
    split
    · exact K.complete _ _ h
    next active =>
      split
      · exact K.complete _ _ h
      · exact K.complete _ _ (K.bind k h (.inr (not_not.1 orphaned)) (not_not.1 active))

theorem completeAmend (a : AmendArgs) (h : P s) : P (s.completeAmend a) := by
  unfold State.completeAmend
  dsimp only
  split
  · exact K.complete _ _ h
  next open_ =>
    split
    · exact K.complete _ _ h
    · split
      · exact K.complete _ _ h
      next unblocked =>
        have occupied : (s.entry a.handle).state ≠ .free := fun free => open_ (by simp [free])
        refine K.complete _ _ (K.rewrite a.handle _ h
          ⟨rfl, rfl, rfl, rfl, rfl, rfl, rfl, fun free => (occupied (by rw [free]; rfl)).elim⟩ fun c blocks direction => ?_)
        intro read_only
        by_contra writable
        have selected : a.selectAccess = true ∧ a.access = some .readOnly := by
          simp only [AmendArgs.apply] at read_only
          cases select : a.selectAccess with
          | false => rw [select] at read_only; exact (writable read_only).elim
          | true =>
            rw [select] at read_only
            cases access : a.access with
            | none => rw [access] at read_only; exact (writable read_only).elim
            | some x => rw [access] at read_only; exact ⟨rfl, congrArg some read_only⟩
        unfold State.amendBlocker at unblocked
        rw [if_pos (by simp [selected])] at unblocked
        have other := State.not_blocked_of_activeBound unblocked c blocks
        rw [direction] at other
        cases other

theorem completeRetire (k : Handle) (h : P s) : P (s.completeRetire k) := by
  unfold State.completeRetire
  dsimp only
  split
  · exact K.complete _ _ h
  next open_ =>
    split
    · exact K.complete _ _ h
    next unblocked =>
      have blockless (c : ChannelId) : ¬s.Blocks k c := fun blocks =>
        nomatch State.not_blocked_of_activeBound unblocked c blocks
      split
      next busy =>
        have busy : (s.entry k).state = .live ∧ (s.entry k).inFlight ≠ 0 := by simpa using busy
        exact K.complete _ _ (K.fence k h busy.1 busy.2 blockless)
      next quiet =>
        refine K.complete _ _ ?_
        have freed : s.freeEntry k = (s.setEntry k Entry.free).unbindWhere (fun j => j == k) :=
          if_neg fun fenced => open_ (by simp [fenced])
        rw [freed]
        refine K.release k h ?_ blockless
        cases state : (s.entry k).state <;> simp_all

theorem completeQuery (k : Handle) (clearUsed : Bool) (h : P s) : P (s.completeQuery k clearUsed) := by
  refine K.complete _ _ ?_
  split
  · exact K.rewrite k _ h ⟨rfl, rfl, rfl, rfl, rfl, rfl, rfl, fun free => by rw [free]; rfl⟩ fun _ _ _ read_only => read_only
  · exact h

theorem completeSweep (i : SlotId) (h : P s) : P (s.completeSweep i) := by
  unfold State.completeSweep
  split
  · exact K.complete _ _ h
  next unblocked => exact K.complete _ _ (K.sweep i h (State.not_blocked_of_sweepBlocker unblocked))

/-! ## Accesses -/

theorem acceptWrite (a : Access) (k : Handle) (l : Lines) (live : (s.entry k).state = .live)
    (room : (s.postingUnit (s.entry k).slot).queue.length < Config.queueSize) (h : P s) : P (s.acceptWrite a k l) :=
  K.answered _ (K.settle (K.choose _ l (K.append k _ h live rfl room)))

theorem captureRead (a : Access) (k : Handle) (l : Lines) (live : (s.entry k).state = .live)
    (empty : (s.postingUnit (s.entry k).slot).holder = none) (h : P s) : P (s.captureRead a k l) :=
  K.answered _ (K.settle (K.choose _ l (K.hold k _ h live rfl rfl empty)))

theorem accessCompletion (i : SlotId) (l : Lines) (h : P s) : P (s.accessCompletion i l) := by
  unfold State.accessCompletion
  split
  · exact h
  next a running =>
    split
    · exact K.settle (K.choose i l (K.completion i a l h running))
    · exact h

theorem waitTimeout (i : SlotId) (l : Lines) (h : P s) : P (s.waitTimeout i l) := by
  unfold State.waitTimeout
  split
  next a _ running _ =>
    refine K.settle (K.choose i l (K.timeout i a (K.offerAny _ h) ?_))
    cases s.timeoutFault i a <;> exact running
  · exact h
  · exact h

theorem collectionExpiry (i : SlotId) (h : P s) : P (s.collectionExpiry i) := by
  unfold State.collectionExpiry
  split
  next r _ held _ =>
    split
    next finished => exact K.settle (K.raise _ (K.collect i r (K.offer _ h) held finished))
    · exact h
  · exact h
  · exact h

/-! ## The requests and answers of the channels -/

theorem arm (c : ChannelId) (l : Lines) (h : P s) : P (s.arm c l) := by
  unfold State.arm
  split
  next accepted =>
    exact K.afterUnits c l (K.channel ((s.touches_setChannel c _).trans (State.touches_startIfDemanded _ c l))
      (fun law => (law.armed accepted).startIfDemanded l) h)
  · exact K.channelResult c _ h

theorem startRequest (c : ChannelId) (l : Lines) (h : P s) : P (s.startRequest c l) := by
  unfold State.startRequest
  dsimp only
  split
  next ready =>
    have armed : (s.channel c).state = .armed := by
      have ready : (s.channel c).state = .armed ∧ (s.channel c).mode = .block := by simpa using ready
      exact ready.1
    refine K.afterUnits c l (K.channel ((s.touches_setChannel c _).trans (State.touches_startUnit _ c)) (fun law => ?_) h)
    have idle : (s.channel c).unit = none := (law.sound c).no_unit (by rw [armed]; decide)
    have active : (s.channel c).isActive = true := (Channel.isActive_iff _).2 (.inl armed)
    refine (law.setState idle active .running _ _ _ .ok).startUnit ?_ ?_
    · rw [State.channel_setChannel, if_pos rfl]
      exact idle
    · rw [State.channel_setChannel, if_pos rfl]
      exact (law.sound c).serves active
  · exact K.channelResult c _ h

theorem resume (c : ChannelId) (l : Lines) (h : P s) : P (s.resume c l) := by
  unfold State.resume
  dsimp only
  split
  next paused =>
    refine K.afterUnits c l
      (K.channel ((s.touches_setChannel c _).trans (State.touches_startIfDue _ c l)) (fun law => ?_) h)
    have idle : (s.channel c).unit = none := (law.sound c).no_unit (by rw [paused]; decide)
    exact (law.setState idle ((Channel.isActive_iff _).2 (.inr (.inr paused))) _ _ _ _ _).startIfDue l
  · exact K.channelResult c _ h

theorem unmask (c : ChannelId) (l : Lines) (h : P s) : P (s.unmask c l) :=
  K.afterUnits c l (K.channel ((s.touches_setChannel c _).trans (State.touches_startIfDemanded _ c l))
    (fun law => (law.setChannel_marks false _ _ _ _ .ok).startIfDemanded l) h)

theorem configure (c : ChannelId) (h : P s) : P (s.configure c) := by
  have touch : s.Touches (s.configure c) c := by
    unfold State.configure
    dsimp only
    split
    · exact s.touches_setChannel c _
    · split
      · exact s.touches_setChannel c _
      · split
        · exact s.touches_setChannel c _
        · split <;> exact s.touches_setChannel c _
  exact K.channel touch (fun law => law.configure c) h

theorem pause (c : ChannelId) (h : P s) : P (s.pause c) := by
  have touch : s.Touches (s.pause c) c := by
    unfold State.pause
    dsimp only
    split <;> exact s.touches_setChannel c _
  exact K.channel touch (fun law => law.pause c) h

theorem cancel (c : ChannelId) (h : P s) : P (s.cancel c) := by
  have touch : s.Touches (s.cancel c) c := by
    unfold State.cancel
    dsimp only
    split <;> exact s.touches_setChannel c _
  exact K.channel touch (fun law => law.cancel c) h

theorem transferRequest (i : SlotId) (l : Lines) (h : P s) : P (s.transferRequest i l) := by
  obtain ⟨⟨_, _, _, frame⟩, laws⟩ := State.foldl_offerAssertion fourIds s i
  exact K.settle (K.choose i l (K.channels h (by rw [frame]) laws))

theorem memoryAnswer (c : ChannelId) (a : MemoryAnswer) (l : Lines) (h : P s) : P (s.memoryAnswer c a l) := by
  unfold State.memoryAnswer
  split
  · exact h
  next m held =>
    have aborted (k : AbortCause) : P (s.abortChannel c k).settle :=
      K.settle (K.channel (s.touches_abortChannel c k)
        (fun law => law.abortChannel (law.not_run (Channel.inBegunHalf_of_inMemoryHalf (law.unit_of_memory held).1)) k) h)
    split
    next data =>
      obtain ⟨_, _, _, frame⟩ := s.memoryDone_frame c m data l
      exact K.afterUnits c l (K.channels h (by rw [frame]) fun law => law.memoryDone held data l)
    · split
      next few => exact K.settle (K.channel (s.touches_issueMemory c _) (fun law => law.issueAgain held few) h)
      · exact aborted _
    · exact aborted _

/-! ## Every command, and every step -/

/-- Registers, setting words, event unit, answer and queue given anew. -/
theorem reset (port : Port) (limit : Nat) (answer : Option Answer) (slots : Quad SlotController)
    (lawful : ∀ i, (s.slot i).Lawful → (slots.get i).Lawful) (h : P s) :
    P { State.reset with
        port := port, collectionLimit := limit, slots := slots, answer := answer, pending := s.pending } :=
  K.plain port 0 CommandPort.initial limit (Quad.all ChannelSettings.initial) EventUnit.initial answer s.pending
    (K.blank slots h lawful)

theorem effect {t : State} (done : s.Effect t) (h : P s) : P t := by
  induction done with
  | stays => exact h
  | answers _ a ih => exact K.answered a ih
  | registers port retired command limit settings =>
    exact K.plain port retired command limit settings s.events s.answer s.pending h
  | events u => exact K.setEvents u h
  | powerOn straps contacts =>
    refine K.reset _ 4 none (contacts.map SlotController.initial) (fun i _ => ?_) h
    rw [Quad.get_map]
    exact SlotController.lawful_initial _
  | softReset =>
    rw [State.softReset_eq]
    refine K.reset s.port s.collectionLimit s.answer (s.slots.map SlotController.softReset) (fun i law => ?_) h
    rw [Quad.get_map]
    exact SlotController.lawful_softReset law
  | channelClear l => exact K.channelClear l h
  | presenceChange i k => exact K.presenceChange i k h
  | settleExpiry i => exact K.settleExpiry i h
  | probeLowSample i k1 k2 => exact K.probeLowSample i k1 k2 h
  | identificationRoundEnd i k1 k2 => exact K.identificationRoundEnd i k1 k2 h
  | supply i k l => exact K.supply i k l h
  | supplyOff i => exact K.supplyOff i h
  | probe i => exact K.probe i h
  | slotResult i r => exact K.slotResult i r h
  | writeSlotConfig i value => exact K.slot i _ h (SlotController.follows_marks _ _)
  | writeProfiles i value => exact K.slot i _ h (SlotController.follows_marks _ _)
  | powerGoodAssertion i => exact K.powerGoodAssertion i h
  | powerGoodLimitExpiry i =>
    unfold State.powerGoodLimitExpiry
    split
    next runs => exact K.settle (K.enterFaulted i _ (fun law => by rw [SlotController.state_of_timer law runs]; rfl) h)
    · exact h
  | resetPulseExpiry i l => exact K.resetPulseExpiry i l h
  | readyAssertion i l =>
    unfold State.readyAssertion
    split
    next runs => exact K.settle (K.goActive i l (fun law => SlotController.state_of_timer law runs) h)
    · exact h
  | readyLimitExpiry i =>
    unfold State.readyLimitExpiry
    split
    next runs => exact K.settle (K.enterFaulted i _ (fun law => by rw [SlotController.state_of_timer law runs]; rfl) h)
    · exact h
  | overcurrent i =>
    unfold State.overcurrent
    split
    next on => exact K.settle (K.enterFaulted i _ (fun _ => on) h)
    · exact h
  | powerGoodLoss i => exact K.powerGoodLoss i h
  | complete code words => exact K.complete code words h
  | completeCreate a => exact K.completeCreate a h
  | completeActivate k => exact K.completeActivate k h
  | completeAmend a => exact K.completeAmend a h
  | completeRetire k => exact K.completeRetire k h
  | completeRebind k => exact K.completeRebind k h
  | completeQuery k clearUsed => exact K.completeQuery k clearUsed h
  | completeSweep i => exact K.completeSweep i h
  | acceptWrite a k l live room => exact K.acceptWrite a k l live room h
  | captureRead a k l live empty => exact K.captureRead a k l live empty h
  | collect i r held finished => exact K.settle (K.collect i r h held finished)
  | clearDiscarded i => exact K.discarded i h
  | accessCompletion i l => exact K.accessCompletion i l h
  | waitTimeout i l => exact K.waitTimeout i l h
  | collectionExpiry i => exact K.collectionExpiry i h
  | waitSample i waiting lines => exact K.setSequencer i _ (Sequencer.carried_sampled _ waiting lines) h
  | moduleCycleEnd i => exact K.setSequencer i _ (Sequencer.carried_cycleEnded _) h
  | configure c => exact K.configure c h
  | arm c l => exact K.arm c l h
  | startRequest c l => exact K.startRequest c l h
  | pause c => exact K.pause c h
  | resume c l => exact K.resume c l h
  | cancel c => exact K.cancel c h
  | unmask c l => exact K.unmask c l h
  | channelResult c r => exact K.channelResult c r h
  | transferRequest i l => exact K.transferRequest i l h
  | memoryAnswer c a l => exact K.memoryAnswer c a l h

/-- A step keeps the property: one clock period changes the phases of the accesses alone, and a command is one of the
operations above. -/
theorem step {t : State} (next : Machine.step s = .next t) (h : P s) : P t := by
  obtain rfl | ⟨rest, effect⟩ := step_cases next
  · refine K.sequencers _ h fun i => ?_
    rw [Quad.get_map]
    change Option.map _ (Option.map BusAccess.tick (s.sequencer i).access) = _
    rw [Option.map_map]
    cases running : (s.sequencer i).access with
    | none => simp [Sequencer.carried, running]
    | some a => simp [Sequencer.carried, running, BusAccess.tick_keeps]
  · exact K.effect effect
      (K.plain s.port s.retired s.command s.collectionLimit s.settings s.events s.answer rest h)

end State.Kept

end Sys2Proof.Machine

/-! The law of the slot controllers (R21, R28, R33) and the law of the aperture table (R41, R44, R45) are kept by every step. -/

namespace Sys2Proof.Machine

/-! ## Frames of the end of an access -/

theorem State.halfDone_frame (s : State) (c : ChannelId) (a : BusAccess) (l : Lines) :
    ∃ ch m u, s.halfDone c a l = { s with channels := ch, memory := m, events := u } := by
  unfold State.halfDone
  dsimp only
  split
  · exact ⟨_, _, _, rfl⟩
  · split
    · exact State.issueMemory_frame (s.setChannel c _) c _
    · exact s.endUnit_frame c l

theorem State.reportCompletion_frame (s : State) (i : SlotId) (a : BusAccess) (l : Lines) :
    ∃ p t ch m r u, s.reportCompletion i a l =
      { s with posting := p, table := t, channels := ch, memory := m, retired := r, events := u } := by
  unfold State.reportCompletion
  split
  · obtain ⟨p, t, ch, r, u, frame⟩ := s.completeWrite_frame i
    exact ⟨p, t, ch, s.memory, r, u, frame⟩
  · obtain ⟨p, frame⟩ := s.finishRead_frame i _
    exact ⟨p, s.table, s.channels, s.memory, s.retired, s.events, frame⟩
  next c _ =>
    obtain ⟨ch, m, u, frame⟩ := s.halfDone_frame c a l
    exact ⟨s.posting, s.table, ch, m, s.retired, u, frame⟩

theorem State.reportTimeout_frame (s : State) (i : SlotId) (a : BusAccess) :
    ∃ p t ch m r u, s.reportTimeout i a =
      { s with posting := p, table := t, channels := ch, memory := m, retired := r, events := u } := by
  unfold State.reportTimeout
  split
  · obtain ⟨p, t, ch, r, u, frame⟩ := s.discardWrite_frame i
    exact ⟨p, t, ch, s.memory, r, u, frame⟩
  · obtain ⟨p, frame⟩ := s.finishRead_frame i _
    exact ⟨p, s.table, s.channels, s.memory, s.retired, s.events, frame⟩
  next c _ =>
    obtain ⟨ch, m, u, frame⟩ := s.abortChannel_frame c .moduleTimeout
    exact ⟨s.posting, s.table, ch, m, s.retired, u, frame⟩

/-! ## The slot law -/

/-- The slot law reads the slot controllers alone, and they change by the two ways that the laws name. -/
theorem State.slotLaw_kept : State.Kept State.SlotLaw where
  plain _ _ _ _ _ _ _ _ law := law
  channels law frame _ := by
    rw [frame]
    exact law
  sequencers _ law _ := law
  slot i x law follows j := by
    rw [State.slot_setSlot]
    split
    next at_i => exact follows.lawful (law i)
    · exact law j
  session i x e law _ _ lawful _ _ j := by
    obtain ⟨_, _, _, _, _, _, _, frame⟩ := State.endSession_frame (State.setSlot _ i x) e
    rw [frame]
    change ((State.setSlot _ i x).slot j).Lawful
    rw [State.slot_setSlot]
    split
    next at_i => exact lawful (law i)
    · exact law j
  blank _ law lawful i := lawful i (law i)
  channelClear l law := by
    obtain ⟨_, _, _, _, _, frame⟩ := State.channelClear_frame _ l
    rw [frame]
    exact law
  choose i l law := by
    obtain ⟨_, _, _, frame⟩ := State.choose_frame _ i l
    rw [frame]
    exact law
  create _ _ law _ _ _ _ _ := law
  rewrite _ _ law _ _ := law
  bind _ law _ _ := law
  fence _ law _ _ _ := law
  release _ law _ _ := law
  sweep _ law _ := law
  append _ _ law _ _ _ := law
  hold _ _ law _ _ _ _ := law
  completion i a l law _ := by
    obtain ⟨_, _, _, _, _, _, frame⟩ := State.reportCompletion_frame (State.freeSequencer _ i) i a l
    rw [frame]
    exact law
  timeout i a law _ := by
    obtain ⟨_, _, _, _, _, _, frame⟩ := State.reportTimeout_frame (State.freeSequencer _ i) i a
    rw [frame]
    exact law
  collect i r law _ _ := by
    obtain ⟨_, _, _, _, _, frame⟩ := State.emptyHolder_frame _ i r
    rw [frame]
    exact law
  discarded _ law := law

/-- Settles O54: the slot law is kept by the operations, and so by a step. -/
theorem stepsKeepTheSlotLaw : Obligations.StepsKeepTheSlotLaw :=
  fun _ law _ next => State.slotLaw_kept.step next law

/-! ## The table law -/

/-- Entry `e` lies within `old`: it is `old`, or FREE, or neither is FREE and they have one range and space. -/
def Entry.Within (old e : Entry) : Prop :=
  e = old ∨ e = Entry.free ∨
    (old.state ≠ .free ∧ e.state ≠ .free ∧ e.space = old.space ∧ e.firstGranule = old.firstGranule ∧
      e.granuleCount = old.granuleCount)

theorem rangesShare_comm (f1 c1 f2 c2 : Nat) : rangesShare f1 c1 f2 c2 = rangesShare f2 c2 f1 c1 := Bool.and_comm _ _

theorem Entry.overlaps_comm (e f : Entry) : e.overlaps f = f.overlaps e := by
  simp only [Entry.overlaps, rangesShare_comm e.firstGranule, Bool.and_comm (e.state != .free)]

theorem Entry.free_overlaps (e : Entry) : Entry.free.overlaps e = false := rfl

theorem Entry.Within.lawful {old e : Entry} (within : old.Within e) (law : old.Lawful) : e.Lawful := by
  obtain rfl | rfl | ⟨occupied, still, space, first, count⟩ := within
  · exact law
  · exact ⟨fun _ => rfl, fun occupied => (occupied rfl).elim⟩
  · refine ⟨fun free => (still free).elim, fun _ => ?_⟩
    have valid := law.2 occupied
    unfold Entry.validRange at valid ⊢
    rw [space, first, count]
    exact valid

/-- What lies within an entry overlaps nothing that the entry does not. -/
theorem Entry.Within.overlaps_false {old e : Entry} (within : old.Within e) (f : Entry) (apart : old.overlaps f = false) :
    e.overlaps f = false := by
  obtain rfl | rfl | ⟨occupied, _, _, first, count⟩ := within
  · exact apart
  · exact Entry.free_overlaps f
  · unfold Entry.overlaps at apart ⊢
    have occupied : (old.state != .free) = true := by simpa using occupied
    rw [occupied, Bool.true_and] at apart
    rw [first, count, Bool.and_assoc, apart, Bool.and_false]

/-- The table law after entries moved within their ranges. -/
theorem State.TableLaw.within {s t : State} (law : s.TableLaw) (within : ∀ h, (s.entry h).Within (t.entry h)) :
    t.TableLaw := by
  obtain ⟨lawful, disjoint⟩ := law
  refine ⟨fun h => (within h).lawful (lawful h), fun h k other => (within h).overlaps_false _ ?_⟩
  rw [Entry.overlaps_comm]
  exact (within k).overlaps_false _ (by rw [Entry.overlaps_comm]; exact disjoint h k other)

/-- The table law after one entry moved within its range. -/
theorem State.TableLaw.setEntry {s : State} (law : s.TableLaw) (h : Handle) (e : Entry) (within : (s.entry h).Within e) :
    (s.setEntry h e).TableLaw := by
  refine law.within fun k => ?_
  rw [State.entry_setEntry]
  split
  next same => exact same ▸ within
  · exact .inl rfl

/-- An entry with another count: a FREE one has none to lose. -/
theorem State.TableLaw.finishOne {s : State} (law : s.TableLaw) (h : Handle) : (s.finishOne h).TableLaw := by
  unfold State.finishOne
  split
  · have freed := law.setEntry h Entry.free (.inr (.inl rfl))
    unfold State.freeEntry
    dsimp only
    split <;> exact freed
  · refine law.setEntry h _ ?_
    by_cases free : (s.entry h).state = .free
    · exact .inl (by rw [(law.1 h).1 free]; rfl)
    · exact .inr (.inr ⟨free, free, rfl, rfl, rfl⟩)

/-- An entry at the end of its slot's session (R53). -/
theorem State.SessionEnded.within {s t : State} {i : SlotId} {epoch : BitVec 16} (ended : s.SessionEnded t i epoch)
    (h : Handle) : (s.entry h).Within (t.entry h) := by
  rw [ended.entries h]
  split
  · split
    · exact .inr (.inl rfl)
    · split
      · exact .inl rfl
      next occupied =>
        split
        · exact .inr (.inr ⟨occupied, by simp, rfl, rfl, rfl⟩)
        · exact .inr (.inr ⟨occupied, occupied, rfl, rfl, rfl⟩)
  · exact .inl rfl

/-- The entries after a SWEEP (R87). -/
theorem State.entry_sweptAt (s : State) (i : SlotId) (h : Handle) :
    (s.sweptAt i).entry h = if (s.entry h).isOf i then (s.entry h).swept else s.entry h := by
  unfold State.sweptAt
  rw [State.entry_unbindWhere]
  unfold State.entry
  rw [Table.getElem_mapEntries]

theorem Entry.within_swept (e : Entry) (i : SlotId) (of_slot : e.isOf i = true) : e.Within e.swept := by
  have occupied : e.state ≠ .free := by
    unfold Entry.isOf at of_slot
    simpa using (Bool.and_eq_true_iff.1 of_slot).2
  unfold Entry.swept
  split
  · exact .inr (.inl rfl)
  · split
    · exact .inr (.inr ⟨occupied, by simp, rfl, rfl, rfl⟩)
    · exact .inl rfl

/-- An entry created clear of every other keeps the law (R44, R45). -/
theorem State.TableLaw.create {s : State} (law : s.TableLaw) (h : Handle) (e : Entry) (staged : e.state = .staged)
    (valid : e.validRange = true)
    (clear : ∀ k, (s.entry k).state ≠ .free →
      rangesShare e.firstGranule e.granuleCount (s.entry k).firstGranule (s.entry k).granuleCount = false) :
    (s.setEntry h e).TableLaw := by
  obtain ⟨lawful, disjoint⟩ := law
  have apart (k : Handle) : e.overlaps (s.entry k) = false := by
    unfold Entry.overlaps
    by_cases free : (s.entry k).state = .free
    · simp [free]
    · rw [clear k free, Bool.and_false]
  refine ⟨fun k => ?_, fun j k other => ?_⟩
  · rw [State.entry_setEntry]
    split
    · exact ⟨fun free => (by rw [staged] at free; cases free), fun _ => valid⟩
    · exact lawful k
  · rw [State.entry_setEntry, State.entry_setEntry]
    split
    next at_j =>
      rw [if_neg fun at_k => other (at_j.trans at_k.symm)]
      exact apart k
    · split
      · rw [Entry.overlaps_comm]
        exact apart j
      · exact disjoint j k other

theorem State.entry_blank (s : State) (q : Quad SlotController) (h : Handle) : (s.blank q).entry h = Entry.free :=
  State.entry_reset h

/-- A write that a session's entries own no longer counts; the table keeps its law. -/
theorem State.TableLaw.reportCompletion {s : State} (law : s.TableLaw) (i : SlotId) (a : BusAccess) (l : Lines) :
    (s.reportCompletion i a l).TableLaw := by
  unfold State.reportCompletion
  split
  · unfold State.completeWrite
    split
    · exact law
    next item _ _ =>
      have posted : (s.setPosting i (s.postingUnit i).dropHead).TableLaw := law
      exact posted.finishOne item.target.handle
  · obtain ⟨_, frame⟩ := s.finishRead_frame i (.ready a.data)
    rw [frame]
    exact law
  next c _ =>
    obtain ⟨_, _, _, frame⟩ := s.halfDone_frame c a l
    rw [frame]
    exact law

theorem State.TableLaw.reportTimeout {s : State} (law : s.TableLaw) (i : SlotId) (a : BusAccess) :
    (s.reportTimeout i a).TableLaw := by
  unfold State.reportTimeout
  split
  · unfold State.discardWrite
    split
    · exact law
    next item _ _ =>
      exact State.TableLaw.finishOne (s := (s.setPosting i _).raise (Flag.dataLost i)) law item.target.handle
  · obtain ⟨_, frame⟩ := s.finishRead_frame i .failed
    rw [frame]
    exact law
  · exact law

theorem State.TableLaw.emptyHolder {s : State} (law : s.TableLaw) (i : SlotId) (r : HeldRead) :
    (s.emptyHolder i r).TableLaw := by
  unfold State.emptyHolder
  exact State.TableLaw.finishOne (s := s.setPosting i _) law r.target.handle

/-- A rewritten entry keeps its range (AMEND, RETIRE and REBIND), and a FREE one stays FREE. -/
theorem State.TableLaw.rewrite {s : State} (law : s.TableLaw) (h : Handle) (e : Entry) (rewrites : (s.entry h).Rewrites e) :
    (s.setEntry h e).TableLaw := by
  refine law.setEntry h e ?_
  by_cases free : (s.entry h).state = .free
  · exact .inr (.inl (rewrites.free ((law.1 h).1 free)))
  · exact .inr (.inr ⟨free, by rw [rewrites.state]; exact free, rewrites.space, rewrites.first, rewrites.count⟩)

theorem State.tableLaw_kept : State.Kept State.TableLaw where
  plain _ _ _ _ _ _ _ _ law := law
  channels law frame _ := by
    rw [frame]
    exact law
  sequencers _ law _ := law
  slot _ _ law _ := law
  session i x e law _ _ _ _ hard :=
    State.TableLaw.within (s := State.setSlot _ i x) law (State.endSession_ended _ e hard).within
  blank q law _ := law.within fun h => .inr (.inl (State.entry_blank _ q h))
  channelClear l law := by
    obtain ⟨_, _, _, _, _, frame⟩ := State.channelClear_frame _ l
    rw [frame]
    exact law
  choose i l law := by
    obtain ⟨_, _, _, frame⟩ := State.choose_frame _ i l
    rw [frame]
    exact law
  create h e law _ staged _ valid clear := law.create h e staged valid clear
  rewrite h e law rewrites _ := law.rewrite h e rewrites
  bind h law from_ _ := by
    refine law.setEntry h _ (.inr (.inr ⟨fun free => ?_, by simp [Entry.bindTo], rfl, rfl, rfl⟩))
    rw [free] at from_
    simp at from_
  fence h law live _ _ :=
    law.setEntry h _ (.inr (.inr ⟨by rw [live]; decide, by simp, rfl, rfl, rfl⟩))
  release h law _ _ := law.setEntry h _ (.inr (.inl rfl))
  sweep i law _ := by
    refine law.within fun h => ?_
    rw [State.entry_sweptAt]
    split
    next of_slot => exact Entry.within_swept _ i of_slot
    · exact .inl rfl
  append h item law live _ _ :=
    State.TableLaw.setEntry (s := State.setPosting _ _ _) law h _
      (.inr (.inr ⟨by simp [live], by simp [live], rfl, rfl, rfl⟩))
  hold h r law live _ _ _ :=
    State.TableLaw.setEntry (s := State.setPosting _ _ _) law h _
      (.inr (.inr ⟨by simp [live], by simp [live], rfl, rfl, rfl⟩))
  completion i a l law _ := State.TableLaw.reportCompletion (s := State.freeSequencer _ i) law i a l
  timeout i a law _ := State.TableLaw.reportTimeout (s := State.freeSequencer _ i) law i a
  collect i r law _ _ := law.emptyHolder i r
  discarded _ law := law

/-- Settles O55: the table law is kept by the operations, and so by a step. -/
theorem stepsKeepTheTableLaw : Obligations.StepsKeepTheTableLaw :=
  fun _ law _ next => State.tableLaw_kept.step next law

end Sys2Proof.Machine

/-! The law of the posting units and sequencers (R108, R110, R113, R114, R116) is kept by every step: it is a law of each slot's posting unit and of what the slot's sequencer carries out. -/

namespace Sys2Proof.Machine

/-- The posting law of one slot, whose sequencer carries out a head write (`write`) or a held read (`read`). -/
abbrev PostingUnit.Agrees (p : PostingUnit) (write read : Bool) : Prop :=
  p.headInProgress = write ∧
  (p.headInProgress = true → p.queue ≠ []) ∧
  p.issued = read ∧
  p.collectionTimer.isSome = p.finished ∧
  p.ahead ≤ p.queue.length ∧
  p.queue.length ≤ Config.queueSize ∧
  p.discarded ≤ Config.discardedMax

theorem State.postingLaw_iff (s : State) :
    s.PostingLaw ↔ ∀ i, (s.postingUnit i).Agrees (s.sequencer i).runsWrite (s.sequencer i).runsRead := Iff.rfl

theorem State.PostingLaw.unit {s : State} (law : s.PostingLaw) (i : SlotId) :
    (s.postingUnit i).Agrees (s.sequencer i).runsWrite (s.sequencer i).runsRead := law i

/-! ## What a sequencer carries out -/

theorem Sequencer.runs_of_idle {q : Sequencer} (idle : q.access = none) : q.runsWrite = false ∧ q.runsRead = false := by
  simp only [Sequencer.runsWrite, Sequencer.runsRead, idle, and_self]

theorem Sequencer.runs_of_access {q : Sequencer} {a : BusAccess} (running : q.access = some a) :
    q.runsWrite = (a.source == .headWrite) ∧ q.runsRead = (a.source == .heldRead) := by
  simp only [Sequencer.runsWrite, Sequencer.runsRead, running, and_self]

theorem Sequencer.runs_of_carried {p q : Sequencer} (same : q.carried = p.carried) :
    q.runsWrite = p.runsWrite ∧ q.runsRead = p.runsRead := by
  unfold Sequencer.carried at same
  cases running : p.access with
  | none =>
    rw [running] at same
    obtain ⟨p_write, p_read⟩ := runs_of_idle running
    obtain ⟨q_write, q_read⟩ := runs_of_idle (Option.map_eq_none_iff.1 same)
    exact ⟨q_write.trans p_write.symm, q_read.trans p_read.symm⟩
  | some a =>
    rw [running] at same
    obtain ⟨b, q_running, pair⟩ := Option.map_eq_some_iff.1 same
    have source : b.source = a.source := congrArg Prod.fst pair
    obtain ⟨p_write, p_read⟩ := runs_of_access running
    obtain ⟨q_write, q_read⟩ := runs_of_access q_running
    rw [q_write, q_read, p_write, p_read, source]
    exact ⟨rfl, rfl⟩

/-! ## The posting unit's operations -/

theorem PostingUnit.Agrees.initial : PostingUnit.initial.Agrees false false := by decide

theorem PostingUnit.agrees_purged (p : PostingUnit) : p.purged.Agrees false false :=
  ⟨rfl, nofun, rfl, rfl, Nat.zero_le _, Nat.zero_le _, Nat.min_le_left _ _⟩

/-- A head write that begins leaves its item in the queue (R110, R129). -/
theorem PostingUnit.Agrees.beginWrite {p : PostingUnit} {write read : Bool} (law : p.Agrees write read)
    (queued : p.queue ≠ []) : PostingUnit.Agrees { p with headInProgress := true } true read := by
  obtain ⟨_, _, issued, timer, ahead, length, discarded⟩ := law
  exact ⟨rfl, fun _ => queued, issued, timer, ahead, length, discarded⟩

theorem PostingUnit.issued_of_empty {p : PostingUnit} (empty : p.holder = none) : p.issued = false := by
  rw [PostingUnit.issued, empty]

theorem PostingUnit.issued_of_held {p : PostingUnit} {r : HeldRead} (held : p.holder = some r) :
    p.issued = (r.state == .issued) := by
  rw [PostingUnit.issued, held]

/-- The posting unit offers its head, or the held read that waits for no write. -/
theorem PostingUnit.offered_cases {p : PostingUnit} {w : SystemWork} (offered : p.offered = some w) :
    p.issued = false ∧
      ((∃ item, w = .headWrite item ∧ p.queue ≠ []) ∨ ∃ r, w = .heldRead r ∧ p.holder = some r ∧ r.state = .waiting 0) := by
  have head {w} (offered : p.headWork = some w) : ∃ item, w = .headWrite item ∧ p.queue ≠ [] := by
    unfold PostingUnit.headWork at offered
    split at offered
    · cases offered
    next queue =>
      cases offered
      exact ⟨_, rfl, by simp [queue]⟩
  unfold PostingUnit.offered at offered
  split at offered
  next held => exact ⟨PostingUnit.issued_of_empty held, .inl (head offered)⟩
  next r held =>
    have issued := PostingUnit.issued_of_held held
    split at offered
    next state =>
      cases offered
      exact ⟨by rw [issued, state]; rfl, .inr ⟨r, rfl, held, state⟩⟩
    next state => exact ⟨by rw [issued, state]; rfl, .inl (head offered)⟩
    · cases offered
    next state => exact ⟨by rw [issued, state]; rfl, .inl (head offered)⟩
    next state => exact ⟨by rw [issued, state]; rfl, .inl (head offered)⟩

/-- A held read that begins is ISSUED, and no collection timer runs for it (R116, R129). -/
theorem PostingUnit.Agrees.beginRead {p : PostingUnit} {write read : Bool} (law : p.Agrees write read) {r : HeldRead}
    (held : p.holder = some r) (waits : r.state = .waiting 0) :
    PostingUnit.Agrees { p with holder := some { r with state := .issued } } write true := by
  obtain ⟨head, queued, _, timer, _, length, discarded⟩ := law
  refine ⟨head, queued, rfl, ?_, Nat.zero_le _, length, discarded⟩
  simp only [PostingUnit.finished, held, HeldRead.finished, waits] at timer
  simpa [PostingUnit.finished, HeldRead.finished] using timer

theorem HeldRead.headLeft_waiting {r : HeldRead} {n : Nat} (waits : r.state = .waiting n) :
    r.headLeft = { r with state := .waiting (n - 1) } := by
  simp only [HeldRead.headLeft, waits]

theorem HeldRead.headLeft_eq {r : HeldRead} (goes : ∀ n, r.state ≠ .waiting n) : r.headLeft = r := by
  unfold HeldRead.headLeft
  split
  next waits => exact (goes _ waits).elim
  · rfl

/-- A head item that leaves the queue leaves one write less ahead of the held read (R110). -/
theorem PostingUnit.Agrees.dropHead {p : PostingUnit} {write read : Bool} (law : p.Agrees write read) :
    p.dropHead.Agrees false read := by
  obtain ⟨_, _, issued, timer, ahead, length, discarded⟩ := law
  have shorter : p.queue.tail.length = p.queue.length - 1 := List.length_tail
  have fits : p.queue.tail.length ≤ Config.queueSize := by omega
  cases held : p.holder with
  | none =>
    simp only [PostingUnit.issued, PostingUnit.finished, held] at issued timer
    refine ⟨rfl, nofun, ?_, ?_, ?_, fits, discarded⟩
    · simpa [PostingUnit.issued, PostingUnit.dropHead, held] using issued
    · simpa [PostingUnit.finished, PostingUnit.dropHead, held] using timer
    · simp [PostingUnit.ahead, PostingUnit.dropHead, held]
  | some r =>
    simp only [PostingUnit.issued, PostingUnit.finished, PostingUnit.ahead, held] at issued timer ahead
    by_cases waits : ∃ n, r.state = .waiting n
    · obtain ⟨n, waits⟩ := waits
      have left : p.dropHead.holder = some { r with state := .waiting (n - 1) } := by
        simp only [PostingUnit.dropHead, held, Option.map_some, HeldRead.headLeft_waiting waits]
      simp only [HeldRead.finished, waits] at issued timer ahead
      refine ⟨rfl, nofun, ?_, ?_, ?_, fits, discarded⟩
      · rw [← issued, PostingUnit.issued, left]
        rfl
      · rw [PostingUnit.finished, left]
        exact timer
      · rw [PostingUnit.ahead, left]
        change n - 1 ≤ p.queue.tail.length
        omega
    · have left : p.dropHead.holder = some r := by
        simp only [PostingUnit.dropHead, held, Option.map_some, HeldRead.headLeft_eq (not_exists.1 waits)]
      refine ⟨rfl, nofun, ?_, ?_, ?_, fits, discarded⟩
      · rw [PostingUnit.issued, left]
        exact issued
      · rw [PostingUnit.finished, left]
        exact timer
      · rw [PostingUnit.ahead, left]
        dsimp only
        split
        next waiting => exact (waits ⟨_, waiting⟩).elim
        all_goals exact Nat.zero_le _

theorem PostingUnit.Agrees.discard {p : PostingUnit} {write read : Bool} (law : p.Agrees write read) (n : Nat)
    (bounded : n ≤ Config.discardedMax) : PostingUnit.Agrees { p with discarded := n } write read := by
  obtain ⟨head, queued, issued, timer, ahead, length, _⟩ := law
  exact ⟨head, queued, issued, timer, ahead, length, bounded⟩

/-- A held read that finishes starts the collection timer (R116, R119). -/
theorem PostingUnit.Agrees.finish {p : PostingUnit} {write read : Bool} (law : p.Agrees write read) (r : HeldRead)
    (outcome : HeldState) (finishes : HeldRead.finished { r with state := outcome } = true) (n : Nat) :
    PostingUnit.Agrees { p with holder := some { r with state := outcome }, collectionTimer := some n } write false := by
  obtain ⟨head, queued, _, _, _, length, discarded⟩ := law
  cases outcome with
  | waiting n => exact nomatch finishes
  | issued => exact nomatch finishes
  | ready data => exact ⟨head, queued, rfl, rfl, Nat.zero_le _, length, discarded⟩
  | failed => exact ⟨head, queued, rfl, rfl, Nat.zero_le _, length, discarded⟩

/-- A holder that becomes EMPTY after its read finished stops the timer (R117, R120). -/
theorem PostingUnit.Agrees.empty {p : PostingUnit} {write read : Bool} (law : p.Agrees write read) {r : HeldRead}
    (held : p.holder = some r) (finished : r.finished = true) :
    PostingUnit.Agrees { p with holder := none, collectionTimer := none } write read := by
  obtain ⟨head, queued, issued, _, _, length, discarded⟩ := law
  refine ⟨head, queued, ?_, rfl, Nat.zero_le _, length, discarded⟩
  rw [← issued]
  simp only [PostingUnit.issued, held]
  cases state : r.state with
  | issued => simp [HeldRead.finished, state] at finished
  | waiting n => rfl
  | ready data => rfl
  | failed => rfl

/-- A write appended to a queue with room (R109). -/
theorem PostingUnit.Agrees.append {p : PostingUnit} {write read : Bool} (law : p.Agrees write read) (item : QueueItem)
    (room : p.queue.length < Config.queueSize) : (p.append item).Agrees write read := by
  obtain ⟨head, queued, issued, timer, ahead, length, discarded⟩ := law
  refine ⟨head, fun _ => by simp [PostingUnit.append], issued, timer, ?_, ?_, discarded⟩
  · change p.ahead ≤ (p.queue ++ [item]).length
    rw [List.length_append]
    omega
  · change (p.queue ++ [item]).length ≤ _
    rw [List.length_append]
    exact room

/-- A read taken by an EMPTY holder waits for the writes queued (R110, R115). -/
theorem PostingUnit.Agrees.hold {p : PostingUnit} {write read : Bool} (law : p.Agrees write read) (r : HeldRead)
    (empty : p.holder = none) (waits : r.state = .waiting p.queue.length) :
    PostingUnit.Agrees { p with holder := some r } write read := by
  obtain ⟨head, queued, issued, timer, _, length, discarded⟩ := law
  simp only [PostingUnit.issued, PostingUnit.finished, empty] at issued timer
  refine ⟨head, queued, ?_, ?_, ?_, length, discarded⟩
  · rw [← issued]
    simp only [PostingUnit.issued, waits]
    rfl
  · simpa [PostingUnit.finished, HeldRead.finished, waits] using timer
  · simp [PostingUnit.ahead, waits]

/-! ## The law of a state -/

/-- A posting unit set beside its sequencer. -/
theorem State.PostingLaw.setPosting {s : State} (law : s.PostingLaw) (i : SlotId) (p : PostingUnit)
    (agrees : p.Agrees (s.sequencer i).runsWrite (s.sequencer i).runsRead) : (s.setPosting i p).PostingLaw := by
  intro j
  rw [State.postingUnit_setPosting, State.sequencer_setPosting]
  split
  next at_i => exact at_i ▸ agrees
  · exact law j

/-- A posting unit set together with its sequencer. -/
theorem State.PostingLaw.setUnit {s : State} (law : s.PostingLaw) (i : SlotId) (p : PostingUnit) (q : Sequencer)
    (agrees : p.Agrees q.runsWrite q.runsRead) : ((s.setPosting i p).setSequencer i q).PostingLaw := by
  intro j
  rw [State.postingUnit_setSequencer, State.postingUnit_setPosting, State.sequencer_setSequencer,
    State.sequencer_setPosting]
  by_cases at_i : j = i
  · rw [if_pos at_i, if_pos at_i]
    exact agrees
  · rw [if_neg at_i, if_neg at_i]
    exact law j

theorem State.PostingLaw.setSequencer {s : State} (law : s.PostingLaw) (i : SlotId) (q : Sequencer)
    (agrees : (s.postingUnit i).Agrees q.runsWrite q.runsRead) : (s.setSequencer i q).PostingLaw := by
  intro j
  rw [State.postingUnit_setSequencer, State.sequencer_setSequencer]
  split
  next at_i => exact at_i ▸ agrees
  · exact law j

/-- The posting law reads the posting units and the sequencers alone. -/
theorem State.PostingLaw.congr {s t : State} (law : s.PostingLaw) (posting : t.posting = s.posting)
    (sequencers : t.sequencers = s.sequencers) : t.PostingLaw := by
  intro i
  have same_unit : t.postingUnit i = s.postingUnit i := by rw [State.postingUnit, posting]; rfl
  have same_sequencer : t.sequencer i = s.sequencer i := by rw [State.sequencer, sequencers]; rfl
  rw [same_unit, same_sequencer]
  exact law i

theorem State.PostingLaw.finishOne {s : State} (law : s.PostingLaw) (h : Handle) : (s.finishOne h).PostingLaw := by
  obtain ⟨_, _, _, _, frame⟩ := s.finishOne_frame h
  exact law.congr (by rw [frame]) (by rw [frame])

theorem State.PostingLaw.beginSystem {s : State} (law : s.PostingLaw) (i : SlotId) (w : SystemWork) (l : Lines)
    (idle : (s.sequencer i).access = none) (offered : (s.postingUnit i).offered = some w) :
    (s.beginSystem i w l).PostingLaw := by
  obtain ⟨no_write, no_read⟩ := Sequencer.runs_of_idle idle
  have agrees := law.unit i
  rw [no_write, no_read] at agrees
  obtain ⟨_, ⟨item, rfl, queued⟩ | ⟨r, rfl, held, waits⟩⟩ := PostingUnit.offered_cases offered
  · exact law.setUnit i _ _ (agrees.beginWrite queued)
  · exact law.setUnit i _ _ (agrees.beginRead held waits)

theorem State.PostingLaw.beginHalf {s : State} (law : s.PostingLaw) (i : SlotId) (c : ChannelId) (l : Lines)
    (idle : (s.sequencer i).access = none) : (s.beginHalf i c l).PostingLaw := by
  obtain ⟨no_write, no_read⟩ := Sequencer.runs_of_idle idle
  have agrees := law.unit i
  rw [no_write, no_read] at agrees
  unfold State.beginHalf
  dsimp only
  split
  · exact law
  · exact State.PostingLaw.setSequencer (s := s.setChannel c _) law i _ agrees

theorem State.PostingLaw.choose {s : State} (law : s.PostingLaw) (i : SlotId) (l : Lines) : (s.choose i l).PostingLaw := by
  obtain same | ⟨w, idle, offered, chosen⟩ | ⟨c, idle, _, chosen⟩ := s.choose_cases i l
  · rw [same]
    exact law
  · rw [chosen]
    exact law.beginSystem i w l idle offered
  · rw [chosen]
    exact law.beginHalf i c l idle

/-- A sequencer freed from a channel's half frees nothing of the posting unit. -/
theorem State.PostingLaw.halfCleared {s t : State} {l : Lines} {i : SlotId}
    (law : (s.postingUnit i).Agrees (s.sequencer i).runsWrite (s.sequencer i).runsRead) (cleared : s.HalfCleared t l i) :
    (t.postingUnit i).Agrees (t.sequencer i).runsWrite (t.sequencer i).runsRead := by
  obtain ⟨idle, system, freed, writes, reads⟩ := cleared
  cases running : (s.sequencer i).access with
  | none =>
    obtain ⟨sequencer, posting⟩ := idle running
    rw [sequencer, posting]
    exact law
  | some a =>
    cases source : a.source.isChannel with
    | false =>
      obtain ⟨sequencer, posting⟩ := system a running source
      rw [sequencer, posting]
      exact law
    | true =>
      have agrees : (s.postingUnit i).Agrees false false := by
        obtain ⟨no_write, no_read⟩ := Sequencer.runs_of_access running
        rw [no_write, no_read] at law
        cases at_source : a.source with
        | channelHalf c =>
          rw [at_source] at law
          exact law
        | headWrite => simp [at_source, AccessSource.isChannel] at source
        | heldRead => simp [at_source, AccessSource.isChannel] at source
      cases offered : (s.postingUnit i).offered with
      | none =>
        obtain ⟨sequencer, posting⟩ := freed a running source offered
        rw [sequencer, posting]
        exact agrees
      | some w =>
        obtain ⟨_, ⟨item, rfl, queued⟩ | ⟨r, rfl, held, waits⟩⟩ := PostingUnit.offered_cases offered
        · obtain ⟨posting, sequencer⟩ := writes a item running source offered
          rw [sequencer, posting]
          exact agrees.beginWrite queued
        · obtain ⟨posting, sequencer⟩ := reads a r running source offered
          rw [sequencer, posting]
          exact agrees.beginRead held waits

theorem State.PostingLaw.session {s t : State} {i : SlotId} {epoch : BitVec 16} (law : s.PostingLaw)
    (ended : s.SessionEnded t i epoch) : t.PostingLaw := by
  intro j
  by_cases at_i : j = i
  · rw [at_i, ended.posting, ended.sequencer]
    exact (s.postingUnit i).agrees_purged
  · rw [ended.otherPosting j at_i, ended.otherSequencers j at_i]
    exact law j

/-! ## The end of an access -/

/-- The law when slot `i`'s sequencer was freed and its posting unit took the end of the access. -/
theorem State.PostingLaw.ended {s : State} (law : s.PostingLaw) (i : SlotId) (p : PostingUnit)
    (agrees : p.Agrees false false) : ((s.freeSequencer i).setPosting i p).PostingLaw :=
  law.setUnit i p (s.sequencer i).freed agrees

/-- The queue holds the item whose write is carried out (R110). -/
theorem State.PostingLaw.headWrite {s : State} (law : s.PostingLaw) {i : SlotId} {a : BusAccess}
    (running : (s.sequencer i).access = some a) (source : a.source = .headWrite) :
    (s.postingUnit i).Agrees true false ∧ (s.postingUnit i).queue ≠ [] := by
  obtain ⟨write, read⟩ := Sequencer.runs_of_access running
  have agrees := law.unit i
  rw [write, read, source] at agrees
  exact ⟨agrees, agrees.2.1 agrees.1⟩

theorem State.PostingLaw.heldRead {s : State} (law : s.PostingLaw) {i : SlotId} {a : BusAccess}
    (running : (s.sequencer i).access = some a) (source : a.source = .heldRead) :
    (s.postingUnit i).Agrees false true ∧ ∃ r, (s.postingUnit i).holder = some r := by
  obtain ⟨write, read⟩ := Sequencer.runs_of_access running
  have agrees := law.unit i
  rw [write, read, source] at agrees
  refine ⟨agrees, ?_⟩
  obtain ⟨_, _, issued, _⟩ := agrees
  cases held : (s.postingUnit i).holder with
  | none => simp [PostingUnit.issued, held] at issued
  | some r => exact ⟨r, rfl⟩

theorem State.PostingLaw.finishRead {s : State} (law : s.PostingLaw) {i : SlotId} {a : BusAccess}
    (running : (s.sequencer i).access = some a) (source : a.source = .heldRead) (outcome : HeldState)
    (finishes : ∀ r : HeldRead, HeldRead.finished { r with state := outcome } = true) :
    ((s.freeSequencer i).finishRead i outcome).PostingLaw := by
  obtain ⟨agrees, r, held⟩ := law.heldRead running source
  have same_unit : (s.freeSequencer i).postingUnit i = s.postingUnit i := rfl
  unfold State.finishRead
  rw [same_unit, held]
  exact law.ended i _ (agrees.finish r outcome (finishes r) _)

/-- A channel's half says nothing of the posting unit. -/
theorem State.PostingLaw.channelHalf {s : State} (law : s.PostingLaw) {i : SlotId} {a : BusAccess} {c : ChannelId}
    (running : (s.sequencer i).access = some a) (source : a.source = .channelHalf c) : (s.freeSequencer i).PostingLaw := by
  obtain ⟨write, read⟩ := Sequencer.runs_of_access running
  have agrees := law.unit i
  rw [write, read, source] at agrees
  exact law.setSequencer i _ agrees

theorem State.PostingLaw.completion {s : State} (law : s.PostingLaw) (i : SlotId) (a : BusAccess) (l : Lines)
    (running : (s.sequencer i).access = some a) : ((s.freeSequencer i).reportCompletion i a l).PostingLaw := by
  unfold State.reportCompletion
  split
  next source =>
    obtain ⟨agrees, queued⟩ := law.headWrite running source
    have same_unit : (s.freeSequencer i).postingUnit i = s.postingUnit i := rfl
    unfold State.completeWrite
    split
    next empty => exact (queued empty).elim
    · rw [same_unit]
      exact (law.ended i _ agrees.dropHead).finishOne _
  next source => exact law.finishRead running source (.ready a.data) fun _ => rfl
  next c source =>
    obtain ⟨_, _, _, frame⟩ := (s.freeSequencer i).halfDone_frame c a l
    exact (law.channelHalf running source).congr (by rw [frame]) (by rw [frame])

theorem State.PostingLaw.timeout {s : State} (law : s.PostingLaw) (i : SlotId) (a : BusAccess)
    (running : (s.sequencer i).access = some a) : ((s.freeSequencer i).reportTimeout i a).PostingLaw := by
  unfold State.reportTimeout
  split
  next source =>
    obtain ⟨agrees, queued⟩ := law.headWrite running source
    have same_unit : (s.freeSequencer i).postingUnit i = s.postingUnit i := rfl
    unfold State.discardWrite
    split
    next empty => exact (queued empty).elim
    · rw [same_unit]
      have discarded := law.ended i _ (agrees.dropHead.discard (addDiscards (s.postingUnit i).discarded 1) (Nat.min_le_left _ _))
      exact State.PostingLaw.finishOne (s := (State.setPosting _ i _).raise (Flag.dataLost i)) discarded _
  next source => exact law.finishRead running source .failed fun _ => rfl
  next c source => exact law.channelHalf running source

theorem State.postingUnit_blank (s : State) (q : Quad SlotController) (i : SlotId) :
    (s.blank q).postingUnit i = PostingUnit.initial := Quad.get_all _ _

theorem State.sequencer_blank (s : State) (q : Quad SlotController) (i : SlotId) :
    (s.blank q).sequencer i = Sequencer.initial := Quad.get_all _ _

theorem State.postingLaw_kept : State.Kept State.PostingLaw where
  plain _ _ _ _ _ _ _ _ law := law
  channels law frame _ := by
    rw [frame]
    exact law
  sequencers q law same i := by
    obtain ⟨write, read⟩ := Sequencer.runs_of_carried (same i)
    change PostingUnit.Agrees _ (q.get i).runsWrite (q.get i).runsRead
    rw [write, read]
    exact law i
  slot _ _ law _ := law
  session i x e law _ _ _ _ hard :=
    State.PostingLaw.session (s := State.setSlot _ i x) law (State.endSession_ended _ e hard)
  blank q _ _ i := by
    rw [State.postingUnit_blank, State.sequencer_blank]
    exact PostingUnit.Agrees.initial
  channelClear l law i := State.PostingLaw.halfCleared (law i) ((State.channelClear_spec _ l).1 i)
  choose i l law := law.choose i l
  create _ _ law _ _ _ _ _ := law
  rewrite _ _ law _ _ := law
  bind _ law _ _ := law
  fence _ law _ _ _ := law
  release _ law _ _ := law
  sweep _ law _ := law
  append h item law _ _ room := law.setPosting _ _ ((law.unit _).append item room)
  hold h r law _ _ waits empty := law.setPosting _ _ ((law.unit _).hold r empty waits)
  completion i a l law running := law.completion i a l running
  timeout i a law running := law.timeout i a running
  collect i r law held finished := (law.setPosting i _ ((law.unit i).empty held finished)).finishOne _
  discarded i law := law.setPosting i _ ((law.unit i).discard 0 (Nat.zero_le _))

/-- Settles O58: the posting law is kept by the operations, and so by a step. -/
theorem stepsKeepThePostingLaw : Obligations.StepsKeepThePostingLaw :=
  fun _ law _ next => State.postingLaw_kept.step next law

end Sys2Proof.Machine

/-! The laws between slots, table and posting units (R46, R50, R51) are kept by every step. They are a law of each entry: that its count is accounted for by the items that name its handle. -/

namespace Sys2Proof.Machine

/-! ## The account of one entry -/

/-- An entry agrees with the slots and with the items that name its handle, `named i` of them in slot `i`; `owed` counts
accepted accesses that no item names any more. -/
structure Entry.Accounted (e : Entry) (slots : SlotId → SlotController) (named : SlotId → Nat) (owed : Nat) : Prop where
  session : e.state = .live ∨ e.state = .fenced →
    (slots e.slot).state = .active ∧ e.boundEpoch = some (slots e.slot).identity.epoch
  count : e.inFlight = named e.slot + owed
  bound : e.inFlight ≠ 0 → e.state = .live ∨ e.state = .fenced
  fenced : e.state = .fenced → e.inFlight ≠ 0
  names : ∀ i, named i ≠ 0 → e.slot = i

/-- How many items of each slot name a handle. -/
def State.named (s : State) (h : Handle) (i : SlotId) : Nat := (s.postingUnit i).naming h

/-- The laws of 04 and 06 but for one accepted access of handle `h`, which has left the posting unit and is still counted. -/
def State.CoherentBut (s : State) (h : Handle) : Prop :=
  s.SlotLaw ∧ ∀ k, (s.entry k).Accounted s.slot (s.named k) (if k = h then 1 else 0)

theorem State.coherent_iff (s : State) :
    s.Coherent ↔ s.SlotLaw ∧ ∀ h, (s.entry h).Accounted s.slot (s.named h) 0 := by
  constructor
  · intro ⟨slots, session, in_flight, names⟩
    refine ⟨slots, fun h => ?_⟩
    obtain ⟨count, bound, fenced⟩ := in_flight h
    exact ⟨session h, count, bound, fenced, fun i => names i h⟩
  · intro ⟨slots, accounted⟩
    exact ⟨slots, fun h => (accounted h).session, fun h => ⟨(accounted h).count, (accounted h).bound, (accounted h).fenced⟩,
      fun i h => (accounted h).names i⟩

namespace Entry.Accounted

variable {e : Entry} {slots slots' : SlotId → SlotController} {named named' : SlotId → Nat} {owed : Nat}

theorem congr (account : e.Accounted slots named owed)
    (slot : (slots e.slot).state = .active →
      (slots' e.slot).state = .active ∧ (slots' e.slot).identity.epoch = (slots e.slot).identity.epoch)
    (same : ∀ i, named' i = named i) : e.Accounted slots' named' owed := by
  obtain ⟨session, count, bound, fenced, names⟩ := account
  refine ⟨fun live => ?_, by rw [same]; exact count, bound, fenced, fun i => by rw [same]; exact names i⟩
  obtain ⟨active, epoch⟩ := session live
  obtain ⟨still, same_epoch⟩ := slot active
  exact ⟨still, by rw [same_epoch]; exact epoch⟩

/-- An entry that is neither LIVE nor FENCED, with count 0 and a handle that no item names. -/
theorem idle (e : Entry) (slots : SlotId → SlotController) (none_live : ¬(e.state = .live ∨ e.state = .fenced))
    (zero : e.inFlight = 0) (unnamed : ∀ i, named i = 0) : e.Accounted slots named 0 :=
  ⟨fun live => (none_live live).elim, by rw [zero, unnamed], fun some => (some zero).elim,
    fun fenced => (none_live (.inr fenced)).elim, fun i some => (some (unnamed i)).elim⟩

theorem free (slots : SlotId → SlotController) (unnamed : ∀ i, named i = 0) : Entry.free.Accounted slots named 0 :=
  idle Entry.free slots (by decide) rfl unnamed

/-- No item names the handle of an entry with count 0. -/
theorem unnamed (account : e.Accounted slots named 0) (zero : e.inFlight = 0) (i : SlotId) : named i = 0 := by
  by_contra some
  have at_i := account.names i some
  have count := account.count
  rw [at_i] at count
  omega

/-- An entry that is neither LIVE nor FENCED has count 0. -/
theorem inFlight_of_not_live (account : e.Accounted slots named owed) (none_live : ¬(e.state = .live ∨ e.state = .fenced)) :
    e.inFlight = 0 := by
  by_contra some
  exact none_live (account.bound some)

/-- An item that leaves slot `i` leaves one access owed. -/
theorem leave (account : e.Accounted slots named 0) (i : SlotId) (left : ∀ j, named j = named' j + if j = i then 1 else 0) :
    e.Accounted slots named' 1 := by
  obtain ⟨session, count, bound, fenced, names⟩ := account
  have at_i : e.slot = i := names i (by have := left i; simp only [if_true] at this; omega)
  refine ⟨session, ?_, bound, fenced, fun j some => names j (by have := left j; omega)⟩
  have := left e.slot
  rw [if_pos at_i] at this
  omega

/-- An item that comes to the entry's slot is counted (R48). -/
theorem accept (account : e.Accounted slots named 0) (live : e.state = .live)
    (come : ∀ j, named' j = named j + if j = e.slot then 1 else 0) :
    Entry.Accounted { e with inFlight := e.inFlight + 1, used := true } slots named' 0 := by
  obtain ⟨session, count, bound, fenced, names⟩ := account
  refine ⟨session, ?_, fun _ => .inl live, fun fenced => by simp [live] at fenced, fun j some => ?_⟩
  · have := come e.slot
    simp only [if_true] at this
    change e.inFlight + 1 = named' e.slot + 0
    omega
  · change e.slot = j
    by_contra other
    have := come j
    rw [if_neg (Ne.symm other)] at this
    exact other (names j (by omega))

/-- An access that is owed finishes; the entry stays (R49). -/
theorem finish (account : e.Accounted slots named 1) (stays : ¬(e.state = .fenced ∧ e.inFlight - 1 = 0)) :
    Entry.Accounted { e with inFlight := e.inFlight - 1 } slots named 0 := by
  obtain ⟨session, count, bound, fenced, names⟩ := account
  refine ⟨session, ?_, fun _ => bound (by omega), fun is_fenced zero => stays ⟨is_fenced, zero⟩, names⟩
  change e.inFlight - 1 = named e.slot + 0
  omega

/-- The last access of a FENCED entry finishes, and nothing names its handle (R51). -/
theorem finish_free (account : e.Accounted slots named 1) (last : e.inFlight - 1 = 0) :
    Entry.free.Accounted slots named 0 := by
  refine free slots fun i => ?_
  by_contra some
  have at_i := account.names i some
  have count := account.count
  rw [at_i] at count
  omega

theorem bindTo (account : e.Accounted slots named 0) (active : (slots e.slot).state = .active) :
    (e.bindTo (slots e.slot).identity.epoch).Accounted slots named 0 :=
  ⟨fun _ => ⟨active, rfl⟩, account.count, fun _ => .inl rfl,
    fun fenced => (by cases fenced), account.names⟩

theorem fence (account : e.Accounted slots named 0) (live : e.state = .live) (some : e.inFlight ≠ 0) :
    Entry.Accounted { e with state := .fenced } slots named 0 :=
  ⟨fun _ => account.session (.inl live), account.count, fun _ => .inr rfl, fun _ => some, account.names⟩

theorem rewrite (account : e.Accounted slots named 0) {new : Entry} (rewrites : e.Rewrites new) :
    new.Accounted slots named 0 := by
  obtain ⟨session, count, bound, fenced, names⟩ := account
  constructor
  · rw [rewrites.state, rewrites.slot, rewrites.epoch]
    exact session
  · rw [rewrites.slot, rewrites.inFlight]
    exact count
  · rw [rewrites.state, rewrites.inFlight]
    exact bound
  · rw [rewrites.state, rewrites.inFlight]
    exact fenced
  · rw [rewrites.slot]
    exact names

/-- An entry after a SWEEP of its slot (R87). -/
theorem swept (account : e.Accounted slots named 0) : e.swept.Accounted slots named 0 := by
  unfold Entry.swept
  split
  next frees =>
    refine free slots (account.unnamed ?_)
    unfold Entry.sweptFree at frees
    split at frees
    next state => exact account.inFlight_of_not_live (by simp [state])
    next state => exact account.inFlight_of_not_live (by simp [state])
    · exact beq_iff_eq.1 frees
    · cases frees
    · cases frees
  · split
    next fences =>
      obtain ⟨live, some⟩ : e.state = .live ∧ e.inFlight ≠ 0 := by simpa [Entry.sweptFenced] using fences
      exact account.fence live some
    · exact account

end Entry.Accounted

/-! ## How many items name a handle -/

theorem PostingUnit.naming_initial (h : Handle) : PostingUnit.initial.naming h = 0 := rfl

theorem PostingUnit.naming_purged (p : PostingUnit) (h : Handle) : p.purged.naming h = 0 := rfl

theorem PostingUnit.naming_append (p : PostingUnit) (item : QueueItem) (h : Handle) :
    (p.append item).naming h = p.naming h + if h = item.target.handle then 1 else 0 := by
  simp only [PostingUnit.naming, PostingUnit.append, List.countP_append, List.countP_singleton, beq_iff_eq,
    eq_comm (a := h)]
  omega

theorem PostingUnit.naming_hold {p : PostingUnit} (empty : p.holder = none) (r : HeldRead) (h : Handle) :
    PostingUnit.naming { p with holder := some r } h = p.naming h + if h = r.target.handle then 1 else 0 := by
  simp only [PostingUnit.naming, empty, eq_comm (a := h)]
  omega

theorem HeldRead.headLeft_target (r : HeldRead) : r.headLeft.target = r.target := by
  unfold HeldRead.headLeft
  split <;> rfl

theorem PostingUnit.naming_dropHead {p : PostingUnit} {item : QueueItem} {rest : List QueueItem}
    (queue : p.queue = item :: rest) (h : Handle) :
    p.naming h = p.dropHead.naming h + if h = item.target.handle then 1 else 0 := by
  simp only [PostingUnit.naming, PostingUnit.dropHead, queue, List.countP_cons, List.tail_cons, beq_iff_eq,
    eq_comm (a := h)]
  cases p.holder with
  | none =>
    simp only [Option.map_none]
    omega
  | some r =>
    simp only [Option.map_some, HeldRead.headLeft_target]
    omega

theorem PostingUnit.naming_setState {p : PostingUnit} {r : HeldRead} (held : p.holder = some r) (state : HeldState)
    (timer : Option Nat) (h : Handle) :
    PostingUnit.naming { p with holder := some { r with state := state }, collectionTimer := timer } h = p.naming h := by
  simp only [PostingUnit.naming, held]

theorem PostingUnit.naming_empty {p : PostingUnit} {r : HeldRead} (held : p.holder = some r) (h : Handle) :
    p.naming h = PostingUnit.naming { p with holder := none, collectionTimer := none } h +
      if h = r.target.handle then 1 else 0 := by
  simp only [PostingUnit.naming, held, eq_comm (a := h)]
  omega

theorem State.named_setPosting (s : State) (i : SlotId) (p : PostingUnit) (h : Handle) (j : SlotId) :
    (s.setPosting i p).named h j = if j = i then p.naming h else s.named h j := by
  unfold State.named
  rw [State.postingUnit_setPosting]
  split <;> rfl

/-! ## The laws of a state -/

/-- The laws read the slot controllers, the table and what the posting units name. -/
theorem State.Coherent.congr {s t : State} (law : s.Coherent) (slots : t.slots = s.slots) (table : t.table = s.table)
    (named : ∀ h i, t.named h i = s.named h i) : t.Coherent := by
  rw [State.coherent_iff] at law ⊢
  obtain ⟨lawful, accounted⟩ := law
  have slot (i : SlotId) : t.slot i = s.slot i := by rw [State.slot, slots]; rfl
  have entry (h : Handle) : t.entry h = s.entry h := by
    unfold State.entry
    rw [table]
  refine ⟨fun i => slot i ▸ lawful i, fun h => ?_⟩
  rw [entry]
  exact (accounted h).congr (by rw [slot]; exact fun active => ⟨active, rfl⟩) (named h)

/-- One entry set, accounted for. -/
theorem State.Coherent.setEntry {s : State} (law : s.Coherent) (h : Handle) (e : Entry)
    (account : (s.entry h).Accounted s.slot (s.named h) 0 → e.Accounted s.slot (s.named h) 0) :
    (s.setEntry h e).Coherent := by
  rw [State.coherent_iff] at law ⊢
  obtain ⟨lawful, accounted⟩ := law
  refine ⟨lawful, fun k => ?_⟩
  rw [State.entry_setEntry]
  split
  next same => exact same ▸ account (accounted h)
  · exact accounted k

/-- The posting unit of one slot, with the same items named. -/
theorem State.Coherent.setPosting {s : State} (law : s.Coherent) (i : SlotId) (p : PostingUnit)
    (naming : ∀ h, p.naming h = (s.postingUnit i).naming h) : (s.setPosting i p).Coherent := by
  refine law.congr rfl rfl fun h j => ?_
  rw [State.named_setPosting]
  split
  next at_i => exact at_i ▸ naming h
  · rfl

/-- An item that left a posting unit: one access of its handle is owed. -/
theorem State.Coherent.leave {s : State} (law : s.Coherent) (i : SlotId) (p : PostingUnit) (h : Handle)
    (left : ∀ k, (s.postingUnit i).naming k = p.naming k + if k = h then 1 else 0) : (s.setPosting i p).CoherentBut h := by
  rw [State.coherent_iff] at law
  obtain ⟨lawful, accounted⟩ := law
  refine ⟨lawful, fun k => ?_⟩
  by_cases at_h : k = h
  · rw [if_pos at_h]
    refine (accounted k).leave i fun j => ?_
    rw [State.named_setPosting]
    split
    next at_i => rw [at_i, State.named, left, if_pos at_h]
    · rfl
  · rw [if_neg at_h]
    refine (accounted k).congr (fun active => ⟨active, rfl⟩) fun j => ?_
    rw [State.named_setPosting]
    split
    next at_i => rw [at_i, State.named, left, if_neg at_h, Nat.add_zero]
    · rfl

theorem State.entry_freeEntry (s : State) (h k : Handle) :
    (s.freeEntry h).entry k = if k = h then Entry.free else s.entry k := by
  unfold State.freeEntry
  dsimp only
  split <;> exact State.entry_setEntry s h k Entry.free

/-- The access that is owed finishes, and the laws hold again (R49, R51). -/
theorem State.CoherentBut.finishOne {s : State} {h : Handle} (law : s.CoherentBut h) : (s.finishOne h).Coherent := by
  obtain ⟨lawful, accounted⟩ := law
  obtain ⟨_, _, _, _, frame⟩ := s.finishOne_frame h
  have slots : (s.finishOne h).slot = s.slot := by rw [frame]; rfl
  have named : (s.finishOne h).named = s.named := by rw [frame]; rfl
  rw [State.coherent_iff]
  refine ⟨fun i => by rw [slots]; exact lawful i, fun k => ?_⟩
  have account := accounted k
  rw [slots, named]
  unfold State.finishOne
  split
  next last =>
    rw [State.entry_freeEntry]
    split
    next at_h =>
      subst at_h
      rw [if_pos rfl] at account
      exact account.finish_free (by simpa using (Bool.and_eq_true_iff.1 last).2)
    next apart =>
      rw [if_neg apart] at account
      exact account
  next stays =>
    rw [State.entry_setEntry]
    split
    next at_h =>
      subst at_h
      rw [if_pos rfl] at account
      exact account.finish (by simpa using stays)
    next apart =>
      rw [if_neg apart] at account
      exact account

/-- An item that came to the slot of a LIVE entry through it (R48). -/
theorem State.Coherent.accept {s : State} (law : s.Coherent) (h : Handle) (live : (s.entry h).state = .live)
    (p : PostingUnit)
    (come : ∀ k, p.naming k = (s.postingUnit (s.entry h).slot).naming k + if k = h then 1 else 0) :
    ((s.setPosting (s.entry h).slot p).acceptThrough h).Coherent := by
  rw [State.coherent_iff] at law ⊢
  obtain ⟨lawful, accounted⟩ := law
  refine ⟨lawful, fun k => ?_⟩
  unfold State.acceptThrough
  rw [State.entry_setEntry]
  by_cases at_h : k = h
  · rw [if_pos at_h, at_h]
    refine (accounted h).accept live fun j => ?_
    change (s.setPosting (s.entry h).slot p).named h j = _
    rw [State.named_setPosting]
    by_cases at_slot : j = (s.entry h).slot
    · rw [if_pos at_slot, if_pos at_slot, come, if_pos rfl, at_slot]
      rfl
    · rw [if_neg at_slot, if_neg at_slot]
      rfl
  · rw [if_neg at_h]
    refine (accounted k).congr (fun active => ⟨active, rfl⟩) fun j => ?_
    change (s.setPosting (s.entry h).slot p).named k j = _
    rw [State.named_setPosting]
    split
    next at_slot => rw [come, if_neg at_h, at_slot, Nat.add_zero, State.named]
    · rfl

/-! ## Session ends and the choice of work -/

/-- A session end leaves the slot's handles unnamed and its entries without a count (R53, R122). -/
theorem State.Coherent.session {s t : State} {i : SlotId} {x : SlotController} {epoch : BitVec 16} (law : s.Coherent)
    (lawful_x : (s.slot i).Lawful → x.Lawful) (ended : (s.setSlot i x).SessionEnded t i epoch)
    (slots : t.slots = (s.setSlot i x).slots) : t.Coherent := by
  have unit (j : SlotId) : (s.setSlot i x).postingUnit j = s.postingUnit j := rfl
  have slot (j : SlotId) : t.slot j = if j = i then x else s.slot j := by
    rw [State.slot, slots]
    exact s.slot_setSlot i j x
  rw [State.coherent_iff] at law ⊢
  obtain ⟨lawful, accounted⟩ := law
  refine ⟨fun j => ?_, fun h => ?_⟩
  · rw [slot]
    split
    next at_i => exact lawful_x (lawful i)
    · exact lawful j
  · have account := accounted h
    have entry := ended.entries h
    rw [State.entry_setSlot] at entry
    by_cases of_slot : (s.entry h).slot = i
    · have unnamed (j : SlotId) : t.named h j = 0 := by
        by_cases at_i : j = i
        · rw [at_i, State.named, ended.posting, PostingUnit.naming_purged]
        · rw [State.named, ended.otherPosting j at_i, unit]
          by_contra some
          exact at_i ((account.names j some).symm.trans of_slot)
      rw [if_pos of_slot] at entry
      rw [entry]
      split
      · exact .free _ unnamed
      next kept =>
        split
        next free => exact .idle _ _ (by simp [free]) (account.inFlight_of_not_live (by simp [free])) unnamed
        · split
          · exact .idle _ _ (by simp) rfl unnamed
          next not_live =>
            refine .idle _ _ ?_ rfl unnamed
            intro bound
            obtain live | fenced := bound
            · exact not_live live
            · exact kept (by simp only [Entry.freedAtEnd]; rw [show (s.entry h).state = .fenced from fenced])
    · rw [if_neg of_slot] at entry
      rw [entry]
      refine account.congr ?_ fun j => ?_
      · rw [slot, if_neg of_slot]
        exact fun active => ⟨active, rfl⟩
      · by_cases at_i : j = i
        · rw [at_i, State.named, ended.posting, PostingUnit.naming_purged]
          by_contra some
          exact of_slot (account.names i fun zero => some zero.symm)
        · rw [State.named, ended.otherPosting j at_i]
          rfl

/-- A slot controller that goes on as the laws name it. -/
theorem State.Coherent.setSlot {s : State} (law : s.Coherent) (i : SlotId) (x : SlotController)
    (follows : (s.slot i).Follows x) : (s.setSlot i x).Coherent := by
  rw [State.coherent_iff] at law ⊢
  obtain ⟨lawful, accounted⟩ := law
  refine ⟨fun j => ?_, fun h => (accounted h).congr ?_ fun _ => rfl⟩
  · rw [State.slot_setSlot]
    split
    next at_i => exact follows.lawful (lawful i)
    · exact lawful j
  · rw [State.slot_setSlot]
    split
    next at_i => exact at_i ▸ follows.session (lawful i)
    · exact fun active => ⟨active, rfl⟩

theorem State.Coherent.choose {s : State} (law : s.Coherent) (i : SlotId) (l : Lines) : (s.choose i l).Coherent := by
  obtain same | ⟨w, idle, offered, chosen⟩ | ⟨c, idle, _, chosen⟩ := s.choose_cases i l
  · rw [same]
    exact law
  · rw [chosen]
    obtain ⟨_, ⟨item, rfl, _⟩ | ⟨r, rfl, held, _⟩⟩ := PostingUnit.offered_cases offered
    · exact law.setPosting i { s.postingUnit i with headInProgress := true } fun _ => rfl
    · exact law.setPosting i { s.postingUnit i with holder := some { r with state := .issued } }
        (PostingUnit.naming_setState held _ _)
  · rw [chosen]
    unfold State.beginHalf
    dsimp only
    split <;> exact law

/-- A clear of a channel's half leaves the items of the posting unit. -/
theorem State.HalfCleared.naming {s t : State} {l : Lines} {i : SlotId} (cleared : s.HalfCleared t l i) (h : Handle) :
    (t.postingUnit i).naming h = (s.postingUnit i).naming h := by
  obtain ⟨idle, system, freed, writes, reads⟩ := cleared
  cases running : (s.sequencer i).access with
  | none => rw [(idle running).2]
  | some a =>
    cases source : a.source.isChannel with
    | false => rw [(system a running source).2]
    | true =>
      cases offered : (s.postingUnit i).offered with
      | none => rw [(freed a running source offered).2]
      | some w =>
        obtain ⟨_, ⟨item, rfl, _⟩ | ⟨r, rfl, held, _⟩⟩ := PostingUnit.offered_cases offered
        · rw [(writes a item running source offered).1]
          rfl
        · rw [(reads a r running source offered).1]
          exact PostingUnit.naming_setState held _ _ h

theorem State.Coherent.finishRead {s : State} (law : s.Coherent) (i : SlotId) (outcome : HeldState) :
    (s.finishRead i outcome).Coherent := by
  unfold State.finishRead
  split
  · exact law
  next r held => exact law.setPosting i _ (PostingUnit.naming_setState held _ _)

theorem State.Coherent.reportCompletion {s : State} (law : s.Coherent) (i : SlotId) (a : BusAccess) (l : Lines) :
    (s.reportCompletion i a l).Coherent := by
  unfold State.reportCompletion
  split
  · unfold State.completeWrite
    split
    · exact law
    next queue => exact (law.leave i _ _ (PostingUnit.naming_dropHead queue)).finishOne
  · exact law.finishRead i _
  next c _ =>
    obtain ⟨_, _, _, frame⟩ := s.halfDone_frame c a l
    rw [frame]
    exact law

theorem State.Coherent.reportTimeout {s : State} (law : s.Coherent) (i : SlotId) (a : BusAccess) :
    (s.reportTimeout i a).Coherent := by
  unfold State.reportTimeout
  split
  · unfold State.discardWrite
    split
    · exact law
    next queue =>
      have owed := law.leave i
        { (s.postingUnit i).dropHead with discarded := addDiscards (s.postingUnit i).discarded 1 } _
        (PostingUnit.naming_dropHead queue)
      exact State.CoherentBut.finishOne (s := (s.setPosting i _).raise (Flag.dataLost i)) owed
  · exact law.finishRead i _
  · exact law

theorem State.Coherent.blank {s : State} (law : s.Coherent) (q : Quad SlotController)
    (lawful : ∀ i, (s.slot i).Lawful → (q.get i).Lawful) : (s.blank q).Coherent := by
  obtain ⟨slots, _⟩ := law
  rw [State.coherent_iff]
  refine ⟨fun i => lawful i (slots i), fun h => ?_⟩
  rw [State.entry_blank]
  refine .free _ fun i => ?_
  rw [State.named, State.postingUnit_blank, PostingUnit.naming_initial]

theorem State.Coherent.sweptAt {s : State} (law : s.Coherent) (i : SlotId) : (s.sweptAt i).Coherent := by
  rw [State.coherent_iff] at law ⊢
  obtain ⟨lawful, accounted⟩ := law
  refine ⟨lawful, fun h => ?_⟩
  rw [State.entry_sweptAt]
  split
  · exact (accounted h).swept
  · exact accounted h

theorem State.coherent_kept : State.Kept State.Coherent where
  plain _ _ _ _ _ _ _ _ law := law
  channels law frame _ := by
    rw [frame]
    exact law
  sequencers _ law _ := law
  slot i x law follows := law.setSlot i x follows
  session {s} i x e law _ _ lawful at_i hard := by
    subst at_i
    obtain ⟨_, _, _, _, _, _, _, frame⟩ := (s.setSlot e.slot x).endSession_frame e
    exact law.session lawful (State.endSession_ended _ e hard) (by rw [frame])
  blank q law lawful := law.blank q lawful
  channelClear {s} l law := by
    obtain ⟨cleared, _, _, frame⟩ := s.channelClear_spec l
    exact law.congr (by rw [frame]) (by rw [frame]) fun h i => (cleared i).naming h
  choose i l law := law.choose i l
  create h e law free staged zero _ _ := law.setEntry h e fun account =>
    .idle e _ (by simp [staged]) zero (account.unnamed (account.inFlight_of_not_live (by simp [free])))
  rewrite h e law rewrites _ := law.setEntry h e fun account => account.rewrite rewrites
  bind h law _ active := law.setEntry h _ fun account => account.bindTo active
  fence h law live some _ := law.setEntry h _ fun account => account.fence live some
  release h law from_ _ := law.setEntry h Entry.free fun account => by
    refine .free _ (account.unnamed ?_)
    obtain staged | orphaned | ⟨_, zero⟩ := from_
    · exact account.inFlight_of_not_live (by simp [staged])
    · exact account.inFlight_of_not_live (by simp [orphaned])
    · exact zero
  sweep i law _ := law.sweptAt i
  append h item law live names _ := law.accept h live _ fun k => names ▸ PostingUnit.naming_append _ item k
  hold h r law live names _ empty := law.accept h live _ fun k => names ▸ PostingUnit.naming_hold empty r k
  completion i a l law _ := State.Coherent.reportCompletion (s := State.freeSequencer _ i) law i a l
  timeout i a law _ := State.Coherent.reportTimeout (s := State.freeSequencer _ i) law i a
  collect i r law held _ := (law.leave i _ _ (PostingUnit.naming_empty held)).finishOne
  discarded {s} i law := law.setPosting i { s.postingUnit i with discarded := 0 } fun _ => rfl

/-- Settles O56: the laws between slots, table and posting units are kept by the operations, and so by a step. -/
theorem stepsKeepTheInFlightLaw : Obligations.StepsKeepTheInFlightLaw :=
  fun _ law _ next => State.coherent_kept.step next law

end Sys2Proof.Machine

/-! The laws of the channels (R104, R105, R142, R152, R176) are kept by every step. What the other blocks do to a channel is little: they unbind it when it is not active, and they free the sequencer that carried out its half. -/

namespace Sys2Proof.Machine

/-! ## What other blocks may do -/

/-- The entries of a state keep what the active channels bound to them rest on (R142). -/
def State.KeepsServing (s t : State) : Prop :=
  ∀ h c, s.Blocks h c → (s.entry h).state = .live →
    (t.entry h).state = .live ∧ (t.entry h).slot = (s.entry h).slot ∧
      ((s.channel c).direction = .fromMemory → (s.entry h).access = .readWrite → (t.entry h).access = .readWrite)

/-- The channels of a state stay as they are, but that one that is not active may lose its binding. -/
def State.KeepsChannels (s t : State) : Prop :=
  ∀ c, t.channel c = s.channel c ∨
    (s.channel c).isActive ≠ true ∧ t.channel c = { s.channel c with bound := none }

theorem State.KeepsServing.of_entry {s t : State} (same : ∀ h c, s.Blocks h c → t.entry h = s.entry h) :
    s.KeepsServing t := by
  intro h c blocks live
  rw [same h c blocks]
  exact ⟨live, rfl, fun _ access => access⟩

/-- A channel in a begun module half is active. -/
theorem State.Sound.active_of_begun {s : State} {ch : Channel} {m : Option MemoryAccess} (sound : s.Sound ch m)
    (begun : ch.inBegunHalf = true) : ch.isActive = true := by
  refine (Channel.isActive_iff ch).2 (.inr (.inl (sound.unit ?_)))
  cases unit : ch.unit with
  | none => rw [Channel.inBegunHalf_of_no_unit unit] at begun; cases begun
  | some u => rfl

/-- The slot of a channel is that of its bound entry. -/
theorem State.channelSlot_congr {s t : State} {c : ChannelId} (bound : (t.channel c).bound = (s.channel c).bound)
    (slot : ∀ h, (s.channel c).bound = some h → (t.entry h).slot = (s.entry h).slot) :
    t.channelSlot c = s.channelSlot c := by
  unfold State.channelSlot
  rw [bound]
  cases is_bound : (s.channel c).bound with
  | none => rfl
  | some h => rw [Option.map_some, Option.map_some, slot h is_bound]

/-- The laws after a change of the other blocks that starts no channel's half. -/
theorem State.ChannelLaws.others {s t : State} (law : s.ChannelLaws) (channels : s.KeepsChannels t)
    (memory : ∀ c, t.memoryRecord c = s.memoryRecord c)
    (runs : ∀ i c d, (t.sequencer i).runsHalf = some (c, d) → (s.sequencer i).runsHalf = some (c, d))
    (serving : s.KeepsServing t) : t.ChannelLaws := by
  refine t.channelLaws_iff.2 ⟨fun c => ?_, fun i c d carried => ?_⟩
  · obtain ⟨serves, unit, record, in_memory, current, base, retries⟩ := law.sound c
    rw [memory c]
    obtain same | ⟨inactive, unbound⟩ := channels c
    · rw [same]
      refine ⟨fun active => ?_, unit, record, in_memory, current, base, retries⟩
      obtain ⟨h, bound, live, access⟩ := serves active
      obtain ⟨live', _, access'⟩ := serving h c ⟨bound, active⟩ live
      refine ⟨h, bound, live', ?_⟩
      cases direction : (s.channel c).direction with
      | toMemory => exact .inl rfl
      | fromMemory => exact .inr (access' direction (access.resolve_left (by rw [direction]; decide)))
    · rw [unbound]
      exact ⟨fun active => (inactive active).elim, unit, (fun h bound => nomatch bound), in_memory, current, base, retries⟩
  · obtain ⟨of_slot, begun, direction⟩ := law.carries (runs i c d carried)
    have active := (law.sound c).active_of_begun begun
    obtain same | ⟨inactive, _⟩ := channels c
    · obtain ⟨h, bound, live, _⟩ := (law.sound c).serves active
      obtain ⟨_, slot, _⟩ := serving h c ⟨bound, active⟩ live
      have same_slot : t.channelSlot c = s.channelSlot c :=
        State.channelSlot_congr (congrArg Channel.bound same) fun k bound' => by
          cases bound.symm.trans bound'
          exact slot
      exact ⟨same_slot.trans of_slot, same ▸ begun, same ▸ direction⟩
    · exact (inactive active).elim

/-- The laws read the channels, their memory records, the entries and what the sequencers carry out. -/
theorem State.ChannelLaws.congr {s t : State} (law : s.ChannelLaws) (channels : t.channels = s.channels)
    (memory : t.memory = s.memory) (table : t.table = s.table)
    (runs : ∀ i c d, (t.sequencer i).runsHalf = some (c, d) → (s.sequencer i).runsHalf = some (c, d)) :
    t.ChannelLaws := by
  refine law.others (fun c => .inl ?_) (fun c => ?_) runs (.of_entry fun h _ _ => ?_)
  · rw [State.channel, channels]
    rfl
  · rw [State.memoryRecord, memory]
    rfl
  · unfold State.entry
    rw [table]

theorem Sequencer.runsHalf_of_carried {p q : Sequencer} (same : q.carried = p.carried) : q.runsHalf = p.runsHalf := by
  unfold Sequencer.carried at same
  unfold Sequencer.runsHalf
  cases running : p.access with
  | none =>
    rw [running] at same
    rw [Option.map_eq_none_iff.1 same]
  | some a =>
    rw [running] at same
    obtain ⟨b, q_running, pair⟩ := Option.map_eq_some_iff.1 same
    obtain ⟨source, direction⟩ := Prod.mk.inj pair
    simp only [q_running, source, direction]

theorem Sequencer.runsHalf_of_idle {q : Sequencer} (idle : q.access = none) : q.runsHalf = none := by
  simp only [Sequencer.runsHalf, idle]

theorem Sequencer.runsHalf_of_system {q : Sequencer} {a : BusAccess} (running : q.access = some a)
    (source : a.source.isChannel = false) : q.runsHalf = none := by
  simp only [Sequencer.runsHalf, running]
  cases at_source : a.source with
  | headWrite => rfl
  | heldRead => rfl
  | channelHalf c => simp [at_source, AccessSource.isChannel] at source

theorem Sequencer.runsHalf_of_half {q : Sequencer} {a : BusAccess} {c : ChannelId} (running : q.access = some a)
    (source : a.source = .channelHalf c) : q.runsHalf = some (c, a.direction) := by
  simp only [Sequencer.runsHalf, running, source]

/-! ## Sequencers -/

/-- A sequencer that carries out no channel's half (R126, R138). -/
theorem State.ChannelLaws.setSequencer {s : State} (law : s.ChannelLaws) (i : SlotId) (q : Sequencer)
    (apart : q.runsHalf = none) : (s.setSequencer i q).ChannelLaws := by
  refine law.congr rfl rfl rfl fun j c d carried => ?_
  rw [State.sequencer_setSequencer] at carried
  split at carried
  · rw [apart] at carried
    cases carried
  · exact carried

/-- A sequencer that carries out the begun half of a channel of its slot (R129). -/
theorem State.ChannelLaws.setSequencer_half {s : State} (law : s.ChannelLaws) {i : SlotId} {c : ChannelId} {d : Direction}
    (carries : s.Carries i c d) (q : Sequencer) (half : q.runsHalf = some (c, d)) :
    (s.setSequencer i q).ChannelLaws := by
  refine (State.channelLaws_iff _).2 ⟨fun k => (law.sound k).congr fun _ => rfl, fun j c' d' carried => ?_⟩
  rw [State.sequencer_setSequencer] at carried
  split at carried
  next at_i =>
    rw [half] at carried
    cases carried
    exact at_i ▸ carries
  · exact law.carries carried

theorem State.ChannelLaws.freeSequencer {s : State} (law : s.ChannelLaws) (i : SlotId) : (s.freeSequencer i).ChannelLaws :=
  law.setSequencer i _ rfl

/-- Once the sequencer that carried out a channel's half is free, none carries it out. -/
theorem State.ChannelLaws.freed_apart {s : State} (law : s.ChannelLaws) {i : SlotId} {a : BusAccess} {c : ChannelId}
    (running : (s.sequencer i).access = some a) (source : a.source = .channelHalf c) (j : SlotId) (d : Direction) :
    ((s.freeSequencer i).sequencer j).runsHalf ≠ some (c, d) := by
  intro carried
  obtain ⟨of_i, _⟩ := law.carries (Sequencer.runsHalf_of_half running source)
  unfold State.freeSequencer at carried
  rw [State.sequencer_setSequencer] at carried
  split at carried
  · cases carried
  next apart =>
    obtain ⟨of_j, _⟩ := law.carries carried
    exact apart (Option.some.inj (of_j.symm.trans of_i))

/-! ## The end of a half -/

theorem State.setMemory_none {s : State} {c : ChannelId} (none_held : s.memoryRecord c = none) : s.setMemory c none = s := by
  unfold State.setMemory
  rw [← none_held, State.memoryRecord, Quad.set_get]

/-- A begun module half: the channel is RUNNING with a unit, and no memory access of it is held. -/
theorem State.ChannelLaws.begun {s : State} (law : s.ChannelLaws) {c : ChannelId}
    (begun : (s.channel c).inBegunHalf = true) :
    (s.channel c).state = .running ∧ s.Serves (s.channel c) ∧ s.memoryRecord c = none ∧
      ∃ u, (s.channel c).unit = some u := by
  have active := (law.sound c).active_of_begun begun
  cases unit : (s.channel c).unit with
  | none => rw [Channel.inBegunHalf_of_no_unit unit] at begun; cases begun
  | some u =>
    refine ⟨(law.sound c).unit (by rw [unit]; rfl), (law.sound c).serves active, ?_, u, rfl⟩
    refine Option.isSome_eq_false_iff.1 ?_ |> Option.isNone_iff_eq_none.1
    rw [(law.sound c).memory]
    by_contra memory
    rw [Channel.inBegunHalf_of_inMemoryHalf (by simpa using memory)] at begun
    cases begun

/-- A module half that completes hands its data to the master side, or ends the unit (R134). -/
theorem State.ChannelLaws.halfDone {s : State} (law : s.ChannelLaws) {c : ChannelId}
    (apart : ∀ i d, (s.sequencer i).runsHalf ≠ some (c, d)) (begun : (s.channel c).inBegunHalf = true) (a : BusAccess)
    (l : Lines) : (s.halfDone c a l).ChannelLaws := by
  obtain ⟨running, serves, no_memory, u, unit⟩ := law.begun begun
  obtain ⟨_, _, record, _, current, base, _⟩ := law.sound c
  unfold State.halfDone
  simp only [unit]
  split
  · exact law.issueHalf apart _ _ _ rfl rfl running serves record current base (Nat.zero_le _)
  · have ended := law.endUnit apart ((law.sound c).active_of_begun begun) l
    rw [State.setMemory_none no_memory] at ended
    exact ended

/-! ## The table and the posting units -/

/-- An entry whose state, slot and access stay. -/
theorem State.ChannelLaws.setEntry {s : State} (law : s.ChannelLaws) (h : Handle) (e : Entry)
    (serving : ∀ c, s.Blocks h c → (s.entry h).state = .live →
      e.state = .live ∧ e.slot = (s.entry h).slot ∧
        ((s.channel c).direction = .fromMemory → (s.entry h).access = .readWrite → e.access = .readWrite)) :
    (s.setEntry h e).ChannelLaws := by
  refine law.others (fun _ => .inl rfl) (fun _ => rfl) (fun _ _ _ carried => carried) fun k c blocks live => ?_
  rw [State.entry_setEntry]
  split
  next at_h =>
    subst at_h
    exact serving c blocks live
  · exact ⟨live, rfl, fun _ access => access⟩

/-- Channels unbound that are not active. -/
theorem State.KeepsChannels.unbindWhere (s : State) (p : Handle → Bool)
    (inactive : ∀ h c, p h = true → ¬s.Blocks h c) : s.KeepsChannels (s.unbindWhere p) := by
  intro c
  rw [State.channel_unbindWhere]
  split
  next h bound =>
    split
    next unbinds => exact .inr ⟨fun active => inactive h c unbinds ⟨bound, active⟩, rfl⟩
    · exact .inl rfl
  · exact .inl rfl

/-- An entry freed that no active channel is bound to (R69, R79). -/
theorem State.ChannelLaws.release {s : State} (law : s.ChannelLaws) (h : Handle) (unblocked : ∀ c, ¬s.Blocks h c) :
    ((s.setEntry h Entry.free).unbindWhere (fun k => k == h)).ChannelLaws := by
  refine law.others (t := (s.setEntry h Entry.free).unbindWhere (fun k => k == h)) ?_ (fun _ => rfl)
    (fun _ _ _ carried => carried) (.of_entry fun k c blocks => ?_)
  · refine State.KeepsChannels.unbindWhere (s.setEntry h Entry.free) _ fun k c is_h blocks => ?_
    obtain rfl := beq_iff_eq.1 is_h
    exact unblocked c blocks
  · rw [State.entry_unbindWhere, State.entry_setEntry, if_neg]
    intro is_h
    exact unblocked c (is_h ▸ blocks)

theorem State.ChannelLaws.finishOne {s : State} (law : s.ChannelLaws) (h : Handle) : (s.finishOne h).ChannelLaws := by
  unfold State.finishOne
  split
  next last =>
    have fenced : (s.entry h).state = .fenced := by simpa using (Bool.and_eq_true_iff.1 last).1
    have unblocked (c : ChannelId) : ¬s.Blocks h c := by
      intro ⟨bound, active⟩
      obtain ⟨k, bound', live, _⟩ := (law.sound c).serves active
      cases bound.symm.trans bound'
      rw [fenced] at live
      cases live
    have freed := law.release h unblocked
    unfold State.freeEntry
    dsimp only
    split <;> exact freed
  · exact law.setEntry h _ fun _ _ live => ⟨live, rfl, fun _ access => access⟩

theorem State.ChannelLaws.finishRead {s : State} (law : s.ChannelLaws) (i : SlotId) (outcome : HeldState) :
    (s.finishRead i outcome).ChannelLaws := by
  obtain ⟨_, frame⟩ := s.finishRead_frame i outcome
  rw [frame]
  exact law

theorem State.ChannelLaws.completion {s : State} (law : s.ChannelLaws) (i : SlotId) (a : BusAccess) (l : Lines)
    (running : (s.sequencer i).access = some a) : ((s.freeSequencer i).reportCompletion i a l).ChannelLaws := by
  have freed := law.freeSequencer i
  unfold State.reportCompletion
  split
  · unfold State.completeWrite
    split
    · exact freed
    · exact State.ChannelLaws.finishOne (s := (s.freeSequencer i).setPosting i _) freed _
  · exact freed.finishRead i _
  next c source =>
    obtain ⟨_, begun, _⟩ := law.carries (Sequencer.runsHalf_of_half running source)
    exact freed.halfDone (law.freed_apart running source) begun a l

theorem State.ChannelLaws.timeout {s : State} (law : s.ChannelLaws) (i : SlotId) (a : BusAccess)
    (running : (s.sequencer i).access = some a) : ((s.freeSequencer i).reportTimeout i a).ChannelLaws := by
  have freed := law.freeSequencer i
  unfold State.reportTimeout
  split
  · unfold State.discardWrite
    split
    · exact freed
    · exact State.ChannelLaws.finishOne (s := ((s.freeSequencer i).setPosting i _).raise (Flag.dataLost i)) freed _
  · exact freed.finishRead i _
  next c source => exact freed.abortChannel (law.freed_apart running source) .moduleTimeout

/-! ## The choice of work -/

/-- A due half: the unit is in its module half, not begun, and the channel is of the slot (R126, R128). -/
theorem State.dueChannel_spec {s : State} {i : SlotId} {c : ChannelId} (due : s.dueChannel i = some c) :
    (s.channel c).halfDue = true ∧ s.channelSlot c = some i := by
  simpa using List.find?_some due

theorem Channel.unit_of_halfDue {c : Channel} (due : c.halfDue = true) :
    ∃ u, c.unit = some u ∧ u.half = .moduleHalf ∧ u.moduleBegun = false := by
  unfold Channel.halfDue at due
  cases unit : c.unit with
  | none => simp [unit] at due
  | some u =>
    rw [unit] at due
    obtain ⟨half, waits⟩ := Bool.and_eq_true_iff.1 (Bool.and_eq_true_iff.1 due).2
    exact ⟨u, rfl, beq_iff_eq.1 half, by simpa using waits⟩

theorem State.ChannelLaws.beginHalf {s : State} (law : s.ChannelLaws) {i : SlotId} {c : ChannelId} (l : Lines)
    (due : s.dueChannel i = some c) : (s.beginHalf i c l).ChannelLaws := by
  obtain ⟨half_due, of_slot⟩ := State.dueChannel_spec due
  obtain ⟨u, unit, half, waits⟩ := Channel.unit_of_halfDue half_due
  obtain ⟨serves, running, record, memory, current, base, retries⟩ := law.sound c
  have apart := law.not_run (c := c) (by simp [Channel.inBegunHalf, unit, waits])
  have marked : (s.setChannel c { s.channel c with unit := some { u with moduleBegun := true } }).ChannelLaws := by
    refine law.touched_apart (s.touches_setChannel c _) apart ?_
    rw [State.channel_setChannel, if_pos rfl]
    refine ⟨serves, fun _ => running (by rw [unit]; rfl), record, ?_, current, base, retries⟩
    have same : Channel.inMemoryHalf { s.channel c with unit := some { u with moduleBegun := true } } =
        (s.channel c).inMemoryHalf := by simp only [Channel.inMemoryHalf, unit]
    rw [same]
    exact memory
  unfold State.beginHalf
  simp only [unit]
  refine marked.setSequencer_half (i := i) (c := c) (d := (s.channel c).direction.moduleDirection) ?_ _ rfl
  unfold State.Carries State.channelSlot at *
  rw [State.channel_setChannel, if_pos rfl]
  exact ⟨of_slot, by simp [Channel.inBegunHalf, half], rfl⟩

theorem State.ChannelLaws.choose {s : State} (law : s.ChannelLaws) (i : SlotId) (l : Lines) :
    (s.choose i l).ChannelLaws := by
  obtain same | ⟨w, idle, offered, chosen⟩ | ⟨c, idle, due, chosen⟩ := s.choose_cases i l
  · rw [same]
    exact law
  · rw [chosen]
    cases w with
    | headWrite item => exact State.ChannelLaws.setSequencer (s := s.setPosting i _) law i _ rfl
    | heldRead r => exact State.ChannelLaws.setSequencer (s := s.setPosting i _) law i _ rfl
  · rw [chosen]
    exact law.beginHalf l due

/-! ## Clears and session ends -/

theorem State.sound_initial (s : State) : s.Sound Channel.initial none :=
  ⟨nofun, nofun, nofun, rfl, le_rfl, Nat.zero_le _, rfl⟩

/-- All channels at their reset values, with no sequencer at a half of one. -/
theorem State.channelLaws_initial {t : State} (channels : ∀ c, t.channel c = Channel.initial)
    (memory : ∀ c, t.memoryRecord c = none) (apart : ∀ i, (t.sequencer i).runsHalf = none) : t.ChannelLaws := by
  refine t.channelLaws_iff.2 ⟨fun c => ?_, fun i c d carried => ?_⟩
  · rw [channels, memory]
    exact t.sound_initial
  · rw [apart] at carried
    cases carried

/-- A channel clear leaves no sequencer at a channel's half (R163). -/
theorem State.HalfCleared.runsHalf {s t : State} {l : Lines} {i : SlotId} (cleared : s.HalfCleared t l i) :
    (t.sequencer i).runsHalf = none := by
  obtain ⟨idle, system, freed, writes, reads⟩ := cleared
  cases running : (s.sequencer i).access with
  | none =>
    rw [(idle running).1]
    exact Sequencer.runsHalf_of_idle running
  | some a =>
    cases source : a.source.isChannel with
    | false =>
      rw [(system a running source).1]
      exact Sequencer.runsHalf_of_system running source
    | true =>
      cases offered : (s.postingUnit i).offered with
      | none =>
        rw [(freed a running source offered).1]
        rfl
      | some w =>
        cases w with
        | headWrite item =>
          rw [(writes a item running source offered).2]
          rfl
        | heldRead r =>
          rw [(reads a r running source offered).2]
          rfl

/-- A channel of the slot whose session ends is sound after it (R155). -/
theorem State.Sound.sessionEnded {s : State} {ch : Channel} {m : Option MemoryAccess} (sound : s.Sound ch m) (t : State)
    (freed : Bool) : t.Sound (ch.sessionEnded freed) (if ch.isActive = true then none else m) := by
  obtain ⟨serves, unit, record, memory, current, base, retries⟩ := sound
  have unbound : ∀ h, (ch.sessionEnded freed).bound = some h → (ch.sessionEnded freed).recordHandle = h := by
    intro h bound
    cases freed with
    | true => exact nomatch bound
    | false => exact record h bound
  by_cases active : ch.isActive = true
  · have ended : ch.sessionEnded freed =
        { ch with
          mask := true, bound := if freed then none else ch.bound, state := .aborted, abortCause := some .sessionEnd,
          unit := none, stopPending := .none, resumeState := none, unitDue := false } := by
      simp only [Channel.sessionEnded, active, if_true]
    rw [if_pos active]
    rw [ended] at unbound ⊢
    exact ⟨nofun, nofun, unbound, rfl, current, base, rfl⟩
  · have ended : ch.sessionEnded freed = { ch with mask := true, bound := if freed then none else ch.bound } := by
      simp only [Channel.sessionEnded, active]
      rfl
    rw [if_neg active]
    rw [ended] at unbound ⊢
    exact ⟨fun still => (active still).elim, unit, unbound, memory, current, base, retries⟩

theorem State.ChannelLaws.session {s t : State} {i : SlotId} {epoch : BitVec 16} (law : s.ChannelLaws)
    (ended : s.SessionEnded t i epoch) : t.ChannelLaws := by
  have entry_elsewhere (h : Handle) (other : (s.entry h).slot ≠ i) : t.entry h = s.entry h := by
    rw [ended.entries h, if_neg other]
  refine t.channelLaws_iff.2 ⟨fun c => ?_, fun j c d carried => ?_⟩
  · rw [ended.channels c, ended.memory c]
    by_cases of_slot : s.channelSlot c = some i
    · rw [if_pos of_slot]
      simp only [of_slot, true_and]
      exact (law.sound c).sessionEnded t _
    · rw [if_neg of_slot, if_neg (fun both => of_slot both.1)]
      obtain ⟨serves, unit, record, memory, current, base, retries⟩ := law.sound c
      refine ⟨fun active => ?_, unit, record, memory, current, base, retries⟩
      obtain ⟨h, bound, live⟩ := serves active
      refine ⟨h, bound, ?_⟩
      rw [entry_elsewhere h fun at_i => of_slot (by rw [State.channelSlot, bound, Option.map_some, at_i])]
      exact live
  · by_cases at_i : j = i
    · rw [at_i, ended.sequencer] at carried
      cases carried
    · rw [ended.otherSequencers j at_i] at carried
      obtain ⟨of_slot, begun, direction⟩ := law.carries carried
      have elsewhere : s.channelSlot c ≠ some i := by
        rw [of_slot]
        exact fun same => at_i (Option.some.inj same)
      have same : t.channel c = s.channel c := by rw [ended.channels c, if_neg elsewhere]
      have same_slot : t.channelSlot c = s.channelSlot c :=
        State.channelSlot_congr (congrArg Channel.bound same) fun h bound => by
          rw [entry_elsewhere h]
          intro at_slot
          rw [State.channelSlot, bound, Option.map_some, at_slot] at elsewhere
          exact elsewhere rfl
      exact ⟨same_slot.trans of_slot, same ▸ begun, same ▸ direction⟩

theorem State.ChannelLaws.sweptAt {s : State} (law : s.ChannelLaws) (i : SlotId)
    (unblocked : ∀ h c, (s.entry h).isOf i = true → ¬s.Blocks h c) : (s.sweptAt i).ChannelLaws := by
  refine law.others ?_ (fun _ => rfl) (fun _ _ _ carried => carried) (.of_entry fun h c blocks => ?_)
  · exact State.KeepsChannels.unbindWhere { s with table := _ } _ fun h c freed blocks =>
      unblocked h c (Bool.and_eq_true_iff.1 freed).1 blocks
  · rw [State.entry_sweptAt, if_neg]
    exact fun of_slot => unblocked h c of_slot blocks

theorem State.channelLaws_kept : State.Kept State.ChannelLaws where
  plain _ _ _ _ _ _ _ _ law := law
  channels law _ keeps := keeps law
  sequencers q law same := law.congr rfl rfl rfl fun i c d carried => by
    rw [← Sequencer.runsHalf_of_carried (same i)]
    exact carried
  slot _ _ law _ := law
  session i x e law _ _ _ _ hard :=
    State.ChannelLaws.session (s := State.setSlot _ i x) law (State.endSession_ended _ e hard)
  blank _ _ _ := State.channelLaws_initial (fun _ => Quad.get_all _ _) (fun _ => Quad.get_all _ _) fun i => by
    rw [State.sequencer_blank]
    rfl
  channelClear {s} l _ := by
    obtain ⟨cleared, _, _, frame⟩ := s.channelClear_spec l
    refine State.channelLaws_initial (fun c => ?_) (fun c => ?_) fun i => (cleared i).runsHalf
    · rw [frame]
      exact Quad.get_all _ _
    · rw [frame]
      exact Quad.get_all _ _
  choose i l law := law.choose i l
  create h e law free _ _ _ _ := law.setEntry h e fun _ _ live => by
    rw [free] at live
    cases live
  rewrite h e law rewrites serves := law.setEntry h e fun c blocks live => by
    refine ⟨by rw [rewrites.state, live], rewrites.slot, fun direction access => ?_⟩
    by_contra read_only
    have read_only : e.access = .readOnly := by
      cases at_access : e.access with
      | readOnly => rfl
      | readWrite => exact (read_only at_access).elim
    rw [serves c blocks direction read_only] at access
    cases access
  bind h law from_ _ := law.setEntry h _ fun _ _ live => by
    rw [live] at from_
    simp at from_
  fence h law _ _ unblocked := law.setEntry h _ fun c blocks _ => (unblocked c blocks).elim
  release h law _ unblocked := law.release h unblocked
  sweep i law unblocked := law.sweptAt i unblocked
  append h item law _ _ _ :=
    State.ChannelLaws.setEntry (s := State.setPosting _ _ _) law h _ fun _ _ live => ⟨live, rfl, fun _ access => access⟩
  hold h r law _ _ _ _ :=
    State.ChannelLaws.setEntry (s := State.setPosting _ _ _) law h _ fun _ _ live => ⟨live, rfl, fun _ access => access⟩
  completion i a l law running := law.completion i a l running
  timeout i a law running := law.timeout i a running
  collect {s} i r law _ _ := State.ChannelLaws.finishOne (s := s.setPosting i _) law r.target.handle
  discarded _ law := law

/-- Settles O59: the laws of the channels are kept by the operations, and so by a step. -/
theorem stepsKeepTheChannelLaws : Obligations.StepsKeepTheChannelLaws :=
  fun _ law _ next => State.channelLaws_kept.step next law

end Sys2Proof.Machine

/-! The machine's step, presence, identification, slot requests, power and faults: what each command of a slot does, by the state it finds. -/

namespace Sys2Proof.Machine

/-! ## The machine -/

/-- Settles O1: the queue's front command runs on the state with the rest. -/
theorem stepRunsFrontCommand : Obligations.StepRunsFrontCommand := by
  intro c rest s waits
  unfold step
  rw [waits]

/-- Settles O2: with no command waiting every access in progress loses a period, and a setup that has run passes into strobe. -/
theorem emptyQueueStepIsOneClockPeriod : Obligations.EmptyQueueStepIsOneClockPeriod := by
  intro s empty
  have stepped : step s = .next s.tick := by
    unfold step
    rw [empty]
  refine ⟨s.tick, stepped, rfl, fun i => ⟨fun idle => ?_, fun a running setup more => ?_, fun a running setup last => ?_,
    fun a running later => ?_⟩⟩
  all_goals rw [State.sequencer_tick]
  · rw [idle, Option.map_none, ← idle]
  · simp only [running, Option.map_some, BusAccess.tick, setup, if_neg (Nat.not_le.2 more)]
  · simp only [running, Option.map_some, BusAccess.tick, setup, if_pos last]
  · rw [running, Option.map_some]
    cases phase : a.phase with
    | setup => exact (later phase).elim
    | strobe => simp only [BusAccess.tick, phase]
    | hold => simp only [BusAccess.tick, phase]

/-! ## Presence and identification -/

/-- Settles O7: outside ACTIVE a presence change ends no session, and the contacts it leaves decide the slot's state. -/
theorem presenceChangeOutsideActive : Obligations.PresenceChangeOutsideActive := by
  intro s i k inactive contacts
  rw [exec_presenceChange]
  have changed : s.presenceChange i k =
      ((s.setSlot i ((s.slot i).afterPresence k)).raise (Flag.presence i)).settle := by
    unfold State.presenceChange
    dsimp only
    rw [if_neg inactive]
  rw [changed]
  refine ⟨fun opened => ?_, fun closed => ?_⟩
  · have is_open : (contacts.a || contacts.b) = false := by
      rw [opened.1, opened.2]
      rfl
    simp only [SlotController.afterPresence]
    rw [is_open]
    rfl
  · have is_closed : (contacts.a || contacts.b) = true := Bool.or_eq_true_iff.2 closed
    simp only [SlotController.afterPresence]
    rw [is_closed]
    rfl

/-- Settles O9: both contacts start the probing, one alone is misseated. -/
theorem settleExpiryDecidesByContacts : Obligations.SettleExpiryDecidesByContacts := by
  intro s i runs
  rw [exec_settleExpiry]
  unfold State.settleExpiry
  refine ⟨fun a b => ?_, fun apart => ?_⟩
  · simp only [runs, a, b, if_true, Bool.and_self]
    rfl
  · cases a : (s.slot i).contacts.a <;> cases b : (s.slot i).contacts.b <;> simp_all

/-- A round's end that ends the probing (R11). -/
theorem State.identificationRoundEnd_ends {s : State} {i : SlotId} {p : Probing} {l1 l2 : Bool} {k1 k2 : Bool} {code : Nat}
    (runs : (s.slot i).probing = some p) (sampled : p.lowSample = some (l1, l2))
    (ends : p.outcome (roundCode l1 l2 k1 k2) = .ends code) :
    s.identificationRoundEnd i k1 k2 =
      ((s.setSlot i ((s.slot i).endProbing code)).raise (Flag.identified i)).settle := by
  unfold State.identificationRoundEnd
  simp only [runs, sampled, ends]

/-- A round's end that begins a further round (R10, R11). -/
theorem State.identificationRoundEnd_further {s : State} {i : SlotId} {p : Probing} {l1 l2 : Bool} {k1 k2 : Bool}
    (runs : (s.slot i).probing = some p) (sampled : p.lowSample = some (l1, l2))
    (further : p.outcome (roundCode l1 l2 k1 k2) = .further) :
    s.identificationRoundEnd i k1 k2 =
      s.setSlot i
        { s.slot i with
          probing := some { round := p.round + 1, codes := p.codes ++ [roundCode l1 l2 k1 k2], lowSample := none }
          probeHigh := false } := by
  unfold State.identificationRoundEnd
  simp only [runs, sampled, further]

/-- A code of the table ends probing with a recognized module under the next epoch (R12, R13). -/
theorem SlotController.endProbing_recognized (c : SlotController) {code : Nat} {kind : Kind} {set : List SupplyClass}
    (known : probeTable code = some (kind, set)) :
    c.endProbing code =
      { c with
        state := .identified, probing := none, probeHigh := true
        identity := { present := true, recognized := true, code := code, kind := some kind, supplySet := some set,
                      epoch := nextEpoch c.identity.epoch } } := by
  unfold SlotController.endProbing
  rw [known]

/-- Any other code ends it unrecognized under the epoch there was (R14). -/
theorem SlotController.endProbing_unrecognized (c : SlotController) {code : Nat} (unknown : probeTable code = none) :
    c.endProbing code =
      { c with
        state := .unrecognized, probing := none, probeHigh := true
        identity := { present := true, recognized := false, code := code, kind := none, supplySet := none,
                      epoch := c.identity.epoch } } := by
  unfold SlotController.endProbing
  rw [unknown]

/-- Settles O11: a round's end agrees, gives up at the fourth round, or begins a further one. -/
theorem identificationRoundsEndByAgreement : Obligations.IdentificationRoundsEndByAgreement := by
  intro s i p k1 k2 runs
  refine ⟨fun unsampled => ?_, fun l1 l2 sampled => ?_⟩
  · rw [exec_probeLowSample]
    unfold State.probeLowSample
    simp only [runs, unsampled]
  · rw [exec_identificationRoundEnd]
    refine ⟨fun kind set agrees known => ?_, fun agrees unknown => ?_, fun differs early => ?_, fun differs late => ?_⟩
    · have ends : p.outcome (roundCode l1 l2 k1 k2) = .ends (roundCode l1 l2 k1 k2) := if_pos agrees
      rw [State.identificationRoundEnd_ends runs sampled ends, SlotController.endProbing_recognized _ known]
      rfl
    · have ends : p.outcome (roundCode l1 l2 k1 k2) = .ends (roundCode l1 l2 k1 k2) := if_pos agrees
      rw [State.identificationRoundEnd_ends runs sampled ends, SlotController.endProbing_unrecognized _ unknown]
    · have further : p.outcome (roundCode l1 l2 k1 k2) = .further := by
        rw [Probing.outcome, if_neg differs, if_neg (Nat.not_le.2 early)]
      rw [State.identificationRoundEnd_further runs sampled further]
    · have ends : p.outcome (roundCode l1 l2 k1 k2) = .ends 15 := by
        rw [Probing.outcome, if_neg differs, if_pos late]
      rw [State.identificationRoundEnd_ends runs sampled ends,
        SlotController.endProbing_unrecognized _ (show probeTable 15 = none from rfl)]

/-! ## Slot requests -/

/-- No module is there to supply or to probe (R17). -/
abbrev SlotState.noModule (x : SlotState) : Prop := x = .empty ∨ x = .settling ∨ x = .misseated

theorem State.supply_noModule {s : State} {i : SlotId} (state : (s.slot i).state.noModule) (k : SupplyClass) (l : Lines) :
    s.supply i k l = s.slotResult i .noModule := by
  unfold State.supply
  obtain state | state | state := state
  all_goals simp only [state]

theorem State.supply_wrongState {s : State} {i : SlotId}
    (state : (s.slot i).state = .probing ∨ (s.slot i).state = .unrecognized ∨ (s.slot i).state.powered = true)
    (k : SupplyClass) (l : Lines) : s.supply i k l = s.slotResult i .wrongState := by
  unfold State.supply
  cases at_state : (s.slot i).state <;> simp_all [SlotState.powered]

theorem State.supply_identified {s : State} {i : SlotId} (state : (s.slot i).state = .identified) (k : SupplyClass)
    (l : Lines) :
    s.supply i k l =
      if (s.slot i).identity.accepts k then (s.setSlot i ((s.slot i).powerUp k)).watchPowering i (l.get i)
      else ((s.setSlot i { s.slot i with lastResult := .badSupply, badSupply := true }).raise
        (Flag.badSupply i)).settle := by
  unfold State.supply
  simp only [state]

/-- Settles O12: a SUPPLY request is refused by the slot's state, or by the module's supply set. -/
theorem supplyRefusals : Obligations.SupplyRefusals := by
  intro s i k l
  rw [exec_supply]
  refine ⟨fun state => ?_, fun state => ?_, fun identified refuses => ?_⟩
  · rw [State.supply_noModule state]
    rfl
  · rw [State.supply_wrongState state]
    rfl
  · rw [State.supply_identified identified, if_neg (by rw [refuses]; decide)]

/-- The entry into FAULTED outside ACTIVE ends no session (R32). -/
theorem State.enterFaulted_of_inactive {s : State} {i : SlotId} (inactive : (s.slot i).state ≠ .active) (kind : FaultKind) :
    s.enterFaulted i kind =
      (s.setSlot i
        { s.slot i with
          state := .faulted, timer := .stopped, switchClass := none, resetAsserted := true,
          faultKind := some kind }).raise (Flag.fault i) :=
  if_neg inactive

/-- Settles O13: an accepted SUPPLY turns the switch on; an overcurrent or power-good found asserted acts in the same event. -/
theorem supplyTurnsTheSwitchOn : Obligations.SupplyTurnsTheSwitchOn := by
  intro s i k l identified accepts
  rw [exec_supply]
  rw [State.supply_identified identified, if_pos accepts]
  have powered : (s.setSlot i ((s.slot i).powerUp k)).slot i = (s.slot i).powerUp k := by simp
  unfold State.watchPowering
  refine ⟨fun no_overcurrent no_good => ?_, fun no_overcurrent good => ?_, fun overcurrent => ?_⟩
  · simp only [no_overcurrent, no_good]
    rfl
  · simp only [no_overcurrent, good, if_true, powered, State.setSlot_setSlot]
    rfl
  · simp only [overcurrent, if_true]
    rw [State.enterFaulted_of_inactive (by rw [powered]; exact nofun), powered, State.setSlot_setSlot]
    rfl

/-- SUPPLY OFF with the switch on and no session: the switch goes off (R24). -/
theorem State.supplyOff_on {s : State} {i : SlotId} (state : (s.slot i).state = .powering ∨ (s.slot i).state = .resetting) :
    s.supplyOff i = s.setSlot i { (s.slot i).switchedOff with state := .identified, lastResult := .ok } := by
  unfold State.supplyOff
  obtain state | state := state
  all_goals simp only [state]

theorem State.supplyOff_faulted {s : State} {i : SlotId} (state : (s.slot i).state = .faulted) :
    s.supplyOff i = s.setSlot i { s.slot i with state := .identified, faultKind := none, lastResult := .ok } := by
  unfold State.supplyOff
  simp only [state]

theorem State.supplyOff_unpowered {s : State} {i : SlotId} (state : (s.slot i).state.powered = false) :
    s.supplyOff i = s.slotResult i .ok := by
  unfold State.supplyOff
  cases at_state : (s.slot i).state <;> simp_all [SlotState.powered]

theorem State.probe_settled {s : State} {i : SlotId}
    (state : (s.slot i).state = .identified ∨ (s.slot i).state = .unrecognized) :
    s.probe i = s.setSlot i { (s.slot i).startProbing with lastResult := .ok } := by
  unfold State.probe
  obtain state | state := state
  all_goals simp only [state]

theorem State.probe_noModule {s : State} {i : SlotId} (state : (s.slot i).state.noModule) :
    s.probe i = s.slotResult i .noModule := by
  unfold State.probe
  obtain state | state | state := state
  all_goals simp only [state]

theorem State.probe_wrongState {s : State} {i : SlotId}
    (state : (s.slot i).state = .probing ∨ (s.slot i).state.powered = true) : s.probe i = s.slotResult i .wrongState := by
  unfold State.probe
  cases at_state : (s.slot i).state <;> simp_all [SlotState.powered]

/-- Settles O14: SUPPLY OFF and PROBE answer by the slot's state. -/
theorem supplyOffAndProbeByState : Obligations.SupplyOffAndProbeByState := by
  intro s i
  rw [exec_supplyOff, exec_probe]
  refine ⟨fun state => ?_, fun state => ?_, fun state => ?_, fun state => ?_, fun state => ?_, fun state => ?_⟩
  · rw [State.supplyOff_on state]
    rfl
  · rw [State.supplyOff_faulted state]
  · rw [State.supplyOff_unpowered state]
    rfl
  · rw [State.probe_settled state]
    rfl
  · rw [State.probe_noModule state]
    rfl
  · rw [State.probe_wrongState state]
    rfl

/-- Which slot request words carry an unused encoding (10.5). -/
theorem badSlotRequest_iff (value : Word) :
    badSlotRequest value = true ↔
      bits value 3 0 = 0 ∨ 3 ≤ bits value 3 0 ∨ (bits value 3 0 = 1 ∧ 4 ≤ bits value 10 8) := by
  unfold badSlotRequest slotRequestOf
  rw [beq_iff_eq]
  split
  next one =>
    rw [one]
    split
    next class_ => simp [class_]
    next class_ => simp [class_]
    next class_ => simp [class_]
    next class_ => simp [class_]
    next zero one two three =>
      have large : 4 ≤ bits value 10 8 := by
        by_contra small
        have cases_ : bits value 10 8 = 0 ∨ bits value 10 8 = 1 ∨ bits value 10 8 = 2 ∨ bits value 10 8 = 3 := by omega
        obtain h | h | h | h := cases_
        · exact zero h
        · exact one h
        · exact two h
        · exact three h
      simp [large]
  next two => simp [two]
  next not_one not_two =>
    have other : bits value 3 0 = 0 ∨ 3 ≤ bits value 3 0 := by
      by_contra small
      have cases_ : bits value 3 0 = 1 ∨ bits value 3 0 = 2 := by omega
      exact cases_.elim not_one not_two
    simp only [true_iff]
    exact other.imp_right .inl

/-- Which channel request words carry an unused code (10.6). -/
theorem badChannelRequest_iff (value : Word) :
    badChannelRequest value = true ↔ bits value 3 0 = 0 ∨ 8 ≤ bits value 3 0 := by
  unfold badChannelRequest channelRequestOf
  rw [beq_iff_eq]
  split
  case h_8 one two three four five six seven =>
    simp only [true_iff]
    by_contra small
    have small : 1 ≤ bits value 3 0 ∧ bits value 3 0 ≤ 7 := by omega
    generalize bits value 3 0 = n at *
    obtain ⟨low, high⟩ := small
    interval_cases n
    · exact one rfl
    · exact two rfl
    · exact three rfl
    · exact four rfl
    · exact five rfl
    · exact six rfl
    · exact seven rfl
  all_goals
    next code => simp [code]

/-- Settles O15: an unused request leaves its result alone. -/
theorem unusedRequestsLeaveOnlyTheirResult : Obligations.UnusedRequestsLeaveOnlyTheirResult :=
  ⟨fun value => ⟨badSlotRequest_iff value, badChannelRequest_iff value⟩, fun s i value _ => exec_badRequest i value s,
    fun s c value _ => exec_channelBadRequest c value s⟩

/-! ## Power and faults -/

/-- A session that starts: the slot is ACTIVE, SESSION_UP is raised and the ALERT source presented (R28, R34, R35, R160). -/
theorem State.goActive_settle_spec (s : State) (i : SlotId) (l : Lines) :
    (s.goActive i l).settle = { s with slots := (s.goActive i l).slots, events := (s.goActive i l).settle.events } ∧
    (∀ j, (s.goActive i l).settle.slot j =
      if j = i then { s.slot i with state := .active, timer := .stopped, resetAsserted := false } else s.slot j) ∧
    ∃ m : EventUnit,
      EventUnit.Raised
        { s.events with alertSources := s.events.alertSources.set i ((s.slot i).alertSource (l.get i).alert) } m
        (fun f => f = Flag.sessionUp i ∨
          ((s.slot i).alertSource (l.get i).alert = true ∧ s.events.alertSources.get i = false ∧ f = Flag.alert i)) ∧
      (s.goActive i l).settle.events = m.settle := by
  refine ⟨rfl, fun j => State.slot_setSlot s i j _, _, ?_, rfl⟩
  have named : (Flag.sessionUp i).Named := by revert i; decide
  have up := (EventUnit.Raised.refl s.events (fun _ => False) fun _ => id).raise (Flag.sessionUp i) named
    (new' := fun f => f = Flag.sessionUp i) fun f => by simp
  exact up.presentAlert i _

/-- Settles O16: power-good, the reset pulse and ready lead a slot to ACTIVE. -/
theorem powerUpReachesActive : Obligations.PowerUpReachesActive := by
  intro s i l source active
  rw [exec_powerGoodAssertion, exec_resetPulseExpiry, exec_readyAssertion]
  unfold State.powerGoodAssertion State.resetPulseExpiry State.readyAssertion
  refine ⟨fun powering => ?_, fun runs unready => ?_, fun ⟨runs, ready⟩ => ?_, fun runs => ?_⟩
  · rw [if_pos powering]
    rfl
  · simp only [runs, unready, if_true]
    rfl
  · simp only [runs, ready, if_true]
    refine ⟨_, rfl, ?_⟩
    obtain ⟨frame, slots, events⟩ := State.goActive_settle_spec (s.setSlot i
      { s.slot i with resetAsserted := false, timer := .running .readyLimit (s.slot i).config.readyInterval }) i l
    simp only [State.slot_setSlot, if_true] at slots events
    refine ⟨frame, fun j => (slots j).trans ?_, events⟩
    split <;> rfl
  · rw [if_pos runs]
    exact ⟨_, rfl, State.goActive_settle_spec s i l⟩

/-- Settles O17: outside ACTIVE a fault turns the switch off and raises FAULT, and one without the switch on is nothing. -/
theorem faultsOutsideActive : Obligations.FaultsOutsideActive := by
  intro s i inactive
  rw [exec_powerGoodLimitExpiry, exec_readyLimitExpiry, exec_overcurrent, exec_powerGoodLoss]
  unfold State.powerGoodLimitExpiry State.readyLimitExpiry State.overcurrent State.powerGoodLoss
  simp only [State.enterFaulted_of_inactive inactive]
  refine ⟨fun runs => ?_, fun runs => ?_, fun state => ?_, fun resetting => ?_, fun off => ?_⟩
  · rw [if_pos runs]
  · rw [if_pos runs]
  · obtain state | state := state
    all_goals
      rw [state]
      rfl
  · rw [resetting]
  · cases state : (s.slot i).state <;> simp_all [SlotState.switchOn]

/-- Settles O18: the alert and change lines act in ACTIVE alone. -/
theorem alertAndChangeArePassedOnInActive : Obligations.AlertAndChangeArePassedOnInActive := by
  intro s i level
  simp only [exec_alertLineChange, exec_changeLineEdge]
  unfold State.alertLineChange State.changeLineEdge
  refine ⟨fun active => ?_, fun active counts => ?_, fun active function falling => ?_, fun inactive => ?_⟩
  · have quiet := EventUnit.Raised.refl s.events (fun _ => False) fun _ => id
    refine ⟨_, (quiet.presentAlert i ((s.slot i).alertSource level)).congr fun f => ?_, ?_⟩
    · simp [SlotController.alertSource]
    · simp only [active, if_true]
      rfl
  · have counted : countsEdge (s.slot i).identity.kind level = true := by
      obtain ⟨function, rising⟩ | memory := counts
      · rw [function, rising]
        rfl
      · rw [memory]
        rfl
    simp only [active, counted, decide_true, Bool.and_self, if_true]
  · have uncounted : countsEdge (s.slot i).identity.kind level = false := by
      rw [function, falling]
      rfl
    simp only [uncounted, Bool.and_false]
    rfl
  · simp [inactive]

/-! ## Session ends -/

/-- Slot `i` of `s` after the end of its session: the controller is `x`, the flags of the end and of its cause (`own`) are
raised, and the event's answer is `answer`. -/
def State.SessionOver (s t : State) (i : SlotId) (x : SlotController) (own : Flag → Prop) (answer : Option Answer) : Prop :=
  s.SessionEnded t i (s.slot i).identity.epoch ∧ (∀ j, t.slot j = if j = i then x else s.slot j) ∧
  t.answer = answer ∧ t.pending = s.pending ∧
  ∃ m : EventUnit,
    EventUnit.Raised { s.events with alertSources := s.events.alertSources.set i false } m
      (fun f => own f ∨ (f = Flag.sessionDown i ∨ ((s.postingUnit i).queue ≠ [] ∧ f = Flag.dataLost i) ∨
        ((∃ h, (s.entry h).slot = i ∧ (s.entry h).state = .fenced) ∧ f = Flag.retired) ∨
        ∃ k, s.channelSlot k = some i ∧ (s.channel k).isActive = true ∧ f = Flag.channelAbort k)) ∧
    t.events = m.settle

/-- Which bindings a session end frees is decided by the removal policy, whatever else the slot controller holds. -/
theorem State.loses_setSlot (s : State) (i : SlotId) (x : SlotController) (u : EventUnit) (c : ChannelId)
    (policy : x.config.policy = (s.slot i).config.policy) : ((s.setSlot i x).setEvents u).loses i c = s.loses i c := by
  unfold State.loses
  rw [State.slot_setEvents, State.slot_setSlot, if_pos rfl, policy]
  rfl

/-- A session end reads of the slot controller the removal policy alone, and of the event unit nothing. -/
theorem State.SessionEnded.of_setSlot {s t : State} {i : SlotId} {x : SlotController} {u : EventUnit} {epoch : BitVec 16}
    (ended : ((s.setSlot i x).setEvents u).SessionEnded t i epoch)
    (policy : x.config.policy = (s.slot i).config.policy) : s.SessionEnded t.settle i epoch where
  posting := ended.posting
  otherPosting := ended.otherPosting
  sequencer := ended.sequencer
  otherSequencers := ended.otherSequencers
  entries h := by
    have entry := ended.entries h
    rw [State.slot_setEvents, State.slot_setSlot, if_pos rfl, policy] at entry
    exact entry
  retired := ended.retired
  channels c := by
    have channel := ended.channels c
    rw [State.loses_setSlot s i x u c policy] at channel
    exact channel
  memory := ended.memory
  port := ended.port
  command := ended.command
  settings := ended.settings
  collectionLimit := ended.collectionLimit

/-- A session end after the slot controller was set and flags were raised (R36). -/
theorem State.sessionOver_endSession {s : State} {i : SlotId} (x : SlotController) (u : EventUnit) (cause : EndCause)
    (own : Flag → Prop) (hard : cause ≠ .softReset) (policy : x.config.policy = (s.slot i).config.policy)
    (raised : s.events.Raised u own) :
    s.SessionOver
      (((s.setSlot i x).setEvents u).endSession
        { slot := i, cause := cause, epoch := (s.slot i).identity.epoch }).settle i x own s.answer := by
  have ended := State.endSession_ended ((s.setSlot i x).setEvents u)
    { slot := i, cause := cause, epoch := (s.slot i).identity.epoch } hard
  have flags := State.endSession_raised ((s.setSlot i x).setEvents u)
    { slot := i, cause := cause, epoch := (s.slot i).identity.epoch } hard raised fun _ => Iff.rfl
  obtain ⟨_, _, _, _, _, _, _, frame⟩ := ((s.setSlot i x).setEvents u).endSession_frame
    { slot := i, cause := cause, epoch := (s.slot i).identity.epoch }
  refine ⟨State.SessionEnded.of_setSlot ended policy, fun j => ?_, ?_, ?_, _, flags, rfl⟩
  · rw [frame]
    exact s.slot_setSlot i j x
  · rw [frame]
    rfl
  · rw [frame]
    rfl

theorem State.SessionOver.answered {s t : State} {i : SlotId} {x : SlotController} {own : Flag → Prop} {a : Option Answer}
    (ended : s.SessionOver t i x own a) (answer : Answer) : s.SessionOver (t.answered answer) i x own (some answer) := by
  obtain ⟨session, slots, _, pending, m, raised, settled⟩ := ended
  refine ⟨?_, slots, rfl, pending, m, raised, settled⟩
  obtain ⟨posting, others, sequencer, others', entries, retired, channels, memory, port, command, settings, limit⟩ := session
  exact ⟨posting, others, sequencer, others', entries, retired, channels, memory, port, command, settings, limit⟩

theorem Flag.named_fault (i : SlotId) : (Flag.fault i).Named := by
  revert i
  decide

theorem Flag.named_presence (i : SlotId) : (Flag.presence i).Named := by
  revert i
  decide

/-- One flag raised. -/
theorem EventUnit.raised_raise (u : EventUnit) (f : Flag) (named : f.Named) : u.Raised (u.raise f) (fun g => g = f) :=
  (EventUnit.Raised.refl u (fun _ => False) fun _ => id).raise f named fun g => by simp

theorem State.enterFaulted_sessionOver {s : State} {i : SlotId} (active : (s.slot i).state = .active) (kind : FaultKind) :
    s.SessionOver (s.enterFaulted i kind).settle i
      { (s.slot i).switchedOff with state := .faulted, faultKind := some kind } (fun f => f = Flag.fault i) s.answer := by
  have faulted : s.enterFaulted i kind =
      ((s.setSlot i { (s.slot i).switchedOff with state := .faulted, faultKind := some kind }).setEvents
        (s.events.raise (Flag.fault i))).endSession
        { slot := i, cause := .powerFault, epoch := (s.slot i).identity.epoch } := if_pos active
  rw [faulted]
  exact State.sessionOver_endSession _ _ .powerFault _ nofun rfl (s.events.raised_raise _ (Flag.named_fault i))

theorem State.presenceChange_sessionOver {s : State} {i : SlotId} (active : (s.slot i).state = .active) (k : Contact) :
    s.SessionOver (s.presenceChange i k) i ((s.slot i).afterPresence k) (fun f => f = Flag.presence i) s.answer := by
  have changed : s.presenceChange i k =
      (((s.setSlot i ((s.slot i).afterPresence k)).setEvents (s.events.raise (Flag.presence i))).endSession
        { slot := i, cause := .removal, epoch := (s.slot i).identity.epoch }).settle := by
    unfold State.presenceChange
    dsimp only
    rw [if_pos active]
    rfl
  rw [changed]
  exact State.sessionOver_endSession _ _ .removal _ nofun rfl (s.events.raised_raise _ (Flag.named_presence i))

theorem State.supplyOff_sessionOver {s : State} {i : SlotId} (active : (s.slot i).state = .active) :
    s.SessionOver (s.supplyOff i) i { (s.slot i).switchedOff with state := .identified, lastResult := .ok }
      (fun _ => False) s.answer := by
  have off : s.supplyOff i =
      (((s.setSlot i { (s.slot i).switchedOff with state := .identified, lastResult := .ok }).setEvents s.events).endSession
        { slot := i, cause := .powerOff, epoch := (s.slot i).identity.epoch }).settle := by
    unfold State.supplyOff
    simp only [active]
    rfl
  rw [off]
  exact State.sessionOver_endSession _ _ .powerOff _ nofun rfl (EventUnit.Raised.refl _ _ fun _ => id)

/-- Settles O8: a presence change, SUPPLY OFF and the faults that find a session end it at every block. -/
theorem sessionEndReachesEveryBlock : Obligations.SessionEndReachesEveryBlock := by
  intro s i active
  refine ⟨fun k => ⟨_, exec_presenceChange i k s, State.presenceChange_sessionOver active k⟩,
    ⟨_, exec_supplyOff i s, State.SessionOver.answered (State.supplyOff_sessionOver active) .ok⟩, ⟨_, exec_overcurrent i s, ?_⟩,
    ⟨_, exec_powerGoodLoss i s, ?_⟩⟩
  · unfold State.overcurrent
    rw [if_pos (by rw [active]; rfl)]
    exact State.enterFaulted_sessionOver active .overcurrent
  · unfold State.powerGoodLoss
    rw [active]
    exact State.enterFaulted_sessionOver active .powerLost

end Sys2Proof.Machine

/-! The command port's completions (04): each table command by its checks in order. -/

namespace Sys2Proof.Machine

/-! ## Fields of an argument word -/

theorem bits_lt (w : Word) (hi lo : Nat) : bits w hi lo < 2 ^ (hi + 1 - lo) := Nat.mod_lt _ (Nat.two_pow_pos _)

theorem handleOf_val {n : Nat} (small : n < 32) : (handleOf n).val = n := Nat.mod_eq_of_lt small

theorem quarter_val {n : Nat} (small : n < 4) : (quarter n).val = n := Nat.mod_eq_of_lt small

theorem Space.ofCode_eq {n : Nat} (small : n < 4) :
    Space.ofCode n = [some .main, some .descriptor, some .port, none][n]?.getD none := by
  interval_cases n <;> rfl

theorem Width.ofCode_eq {n : Nat} (small : n < 4) :
    Width.ofCode n = [some .byte, some .word, some .sensed, none][n]?.getD none := by
  interval_cases n <;> rfl

theorem EntryAccess.ofCode_eq {n : Nat} (small : n < 4) :
    EntryAccess.ofCode n = [some .readWrite, some .readOnly, none, none][n]?.getD none := by
  interval_cases n <;> rfl

theorem CookieOp.ofCode_eq {n : Nat} (small : n < 4) :
    CookieOp.ofCode n = [some .keep, some .set, some .remove, none][n]?.getD none := by
  interval_cases n <;> rfl

/-! ## Completions -/

/-- Settles O20: a completion writes the results and raises COMMAND_DONE; an unused code is refused. -/
theorem completionsWriteResultsAndRaiseCommandDone : Obligations.CompletionsWriteResultsAndRaiseCommandDone := by
  refine ⟨fun s code words => ⟨rfl, ?_⟩, fun s e running unused => ?_⟩
  · change ((s.events.raise Flag.commandDone).settle).isSet Flag.commandDone = true
    rw [EventUnit.isSet_settle]
    exact EventUnit.isSet_raise_self _ _ (by decide) (by decide)
  · have is_unused : unusedCode e.code = true := by simpa [unusedCode] using unused
    rw [exec_unusedCommand, running, Option.elim_some, if_pos is_unused]
    rfl

/-! ## CREATE -/

/-- The range check of CREATE (R44). -/
theorem validRange_eq_false (first count : Nat) :
    validRange first count = false ↔ count = 0 ∨ 65536 < count ∨ 65536 < first + count := by
  rw [Bool.eq_false_iff]
  simp only [validRange, Bool.and_eq_true, decide_eq_true_eq, ne_eq]
  unfold Config.granules
  omega

theorem State.mem_conflicts (s : State) (first count : Nat) (h : Handle) :
    h ∈ s.conflicts first count ↔
      (s.entry h).state ≠ .free ∧ first < (s.entry h).firstGranule + (s.entry h).granuleCount ∧
        (s.entry h).firstGranule < first + count := by
  simp [State.conflicts, handles, rangesShare]

theorem State.conflicts_pairwise (s : State) (first count : Nat) : (s.conflicts first count).Pairwise (fun h k => h < k) :=
  (List.pairwise_lt_finRange 32).filter _

/-- A CREATE with a field that carries an unused encoding, or a PORT offset above 65,535 (R70). -/
theorem State.completeCreate_badField {s : State} {a : CreateArgs}
    (bad : a.space = none ∨ a.width = none ∨ a.access = none ∨ (a.space = some .port ∧ 65535 < a.moduleOffset)) :
    s.completeCreate a = s.complete .badField noResults := by
  unfold State.completeCreate
  split
  next space width access space_eq width_eq access_eq =>
    simp only [space_eq, width_eq, access_eq, reduceCtorEq, false_or, Option.some.injEq] at bad
    simp [bad]
  · rfl

/-- A CREATE whose fields are encodings in use goes on to its other checks (R70). -/
theorem State.completeCreate_eq {s : State} {a : CreateArgs} {space : Space} {width : Width} {access : EntryAccess}
    (has_space : a.space = some space) (has_width : a.width = some width) (has_access : a.access = some access)
    (offset : ¬(space = .port ∧ 65535 < a.moduleOffset)) :
    s.completeCreate a =
      if validRange a.firstGranule a.granuleCount = false then s.complete .badRange noResults
      else if space = .port ∧ 16 < a.granuleCount then s.complete .portTooLong noResults
      else if (s.entry a.handle).state ≠ .free then
        s.complete .handleInUse (resultWords (s.entry a.handle).state.code 0 0)
      else
        (s.conflicts a.firstGranule a.granuleCount).head?.elim
          ((s.setEntry a.handle (a.entry space width access)).complete .ok (resultWords a.handle.val 0 0)) fun h =>
            s.complete .overlap (resultWords h.val (s.conflicts a.firstGranule a.granuleCount).length 0) := by
  unfold State.completeCreate
  simp only [has_space, has_width, has_access, Bool.and_eq_true, decide_eq_true_eq, if_neg offset, Bool.not_eq_true']
  cases s.conflicts a.firstGranule a.granuleCount <;> rfl

/-- Settles O21: CREATE's arguments, its conflicts, and its checks in order. -/
theorem createChecksInOrder : Obligations.CreateChecksInOrder := by
  refine ⟨fun w => ?_, fun s first count => ⟨s.mem_conflicts first count, s.conflicts_pairwise first count⟩, ?_⟩
  · exact ⟨handleOf_val (bits_lt _ _ _), quarter_val (bits_lt _ _ _), Space.ofCode_eq (bits_lt _ _ _),
      Width.ofCode_eq (bits_lt _ _ _), quarter_val (bits_lt _ _ _), EntryAccess.ofCode_eq (bits_lt _ _ _), rfl, rfl, rfl, rfl⟩
  · intro s x running is_create a
    have completed : exec .create s = .next (s.completeCreate a) := by
      rw [exec_create, s.executingArgs_eq_some x 1 running is_create]
      rfl
    rw [completed]
    refine ⟨fun bad => by rw [State.completeCreate_badField bad]; rfl,
      fun space width access has_space has_width has_access offset => ?_⟩
    rw [State.completeCreate_eq has_space has_width has_access offset]
    refine ⟨fun bad_range => ?_, fun low high inside => ⟨fun port long => ?_, fun fits => ⟨fun used => ?_, fun free => ?_⟩⟩⟩
    · rw [if_pos ((validRange_eq_false _ _).2 bad_range)]
      rfl
    all_goals rw [if_neg (show ¬validRange a.firstGranule a.granuleCount = false by rw [validRange_eq_false]; omega)]
    · rw [if_pos ⟨port, long⟩]
      rfl
    · rw [if_neg fits, if_pos used]
      rfl
    · rw [if_neg fits, if_neg (not_not.2 free)]
      refine ⟨fun h more conflict => ?_, fun clear => ?_⟩
      · rw [conflict]
        rfl
      · rw [clear]
        rfl

/-! ## ACTIVATE and REBIND -/

theorem State.wrongKind_iff (s : State) (e : Entry) :
    s.wrongKind e = true ↔ e.space = .port ∧ (s.slot e.slot).identity.kind = some .memory := by
  simp [State.wrongKind]

/-- Settles O22: ACTIVATE and REBIND bind the entry to the session of its slot, by their checks in order. -/
theorem activateAndRebindBindToTheSession : Obligations.ActivateAndRebindBindToTheSession := by
  constructor
  · intro s x running is_activate h e
    have completed : exec .activate s = .next (s.completeActivate h) := by
      rw [exec_activate, s.executingArgs_eq_some x 2 running is_activate]
      rfl
    rw [completed]
    unfold State.completeActivate
    dsimp only
    refine ⟨fun state => ?_, fun state slot => ?_, fun state slot port memory => ?_, fun state slot kind => ?_⟩
    · rw [if_pos state]
      rfl
    all_goals rw [if_neg (not_not.2 state)]
    · rw [if_pos slot]
      rfl
    · rw [if_neg (not_not.2 slot), if_pos ((s.wrongKind_iff e).2 ⟨port, memory⟩)]
      rfl
    · rw [if_neg (not_not.2 slot), if_neg (fun wrong => kind ((s.wrongKind_iff e).1 wrong))]
      rfl
  · intro s x running is_rebind h e
    have completed : exec .rebind s = .next (s.completeRebind h) := by
      rw [exec_rebind, s.executingArgs_eq_some x 5 running is_rebind]
      rfl
    rw [completed]
    unfold State.completeRebind
    dsimp only
    refine ⟨fun state => ?_, fun state slot => ?_, fun state slot port memory => ?_, fun old state slot epoch kind => ?_⟩
    · rw [if_pos state]
      rfl
    all_goals rw [if_neg (not_not.2 state)]
    · rw [if_pos slot]
      rfl
    · rw [if_neg (not_not.2 slot), if_pos ((s.wrongKind_iff e).2 ⟨port, memory⟩)]
      rfl
    · have old_number : (s.entry h).epochNumber = old.toNat := by
        unfold Entry.epochNumber
        rw [epoch]
      rw [if_neg (not_not.2 slot), if_neg (fun wrong => kind ((s.wrongKind_iff e).1 wrong)), old_number]
      rfl

/-! ## AMEND -/

theorem AmendArgs.badField_iff (a : AmendArgs) (e : Entry) :
    a.badField e = true ↔
      a.cookieOp = none ∨ (a.selectWidth = true ∧ a.width = none) ∨ (a.selectAccess = true ∧ a.access = none) ∨
        (a.selectOffset = true ∧ e.space = .port ∧ 65535 < a.moduleOffset) := by
  simp [AmendArgs.badField, or_assoc, and_assoc]

/-- The cookie after an AMEND, by the operation in use (R75). -/
theorem AmendArgs.newCookie_eq (a : AmendArgs) (e : Entry) :
    a.newCookie e =
      if a.cookieOp = some .set then some a.cookie else if a.cookieOp = some .remove then none else e.cookie := by
  unfold AmendArgs.newCookie
  split
  next op => rw [if_pos op]
  next op => rw [if_neg (by rw [op]; decide), if_pos op]
  next not_set not_remove => rw [if_neg not_set, if_neg not_remove]

/-- The channels that block an AMEND to READ_ONLY: none, or the lowest (R75). -/
theorem State.amendBlocker_none {s : State} {a : AmendArgs}
    (clear : ¬(a.selectAccess = true ∧ a.access = some .readOnly) ∨
      ∀ c, ¬((s.channel c).bound = some a.handle ∧ (s.channel c).isActive = true ∧ (s.channel c).direction = .fromMemory)) :
    s.amendBlocker a = none := by
  unfold State.amendBlocker
  split
  next selects =>
    obtain not_selected | clear := clear
    · exact (not_selected (by simpa using selects)).elim
    · exact s.activeBound_none _ _ (by simpa using clear)
  · rfl

theorem State.amendBlocker_some {s : State} {a : AmendArgs} {c : ChannelId} (selects : a.selectAccess = true)
    (read_only : a.access = some .readOnly)
    (blocks : (s.channel c).bound = some a.handle ∧ (s.channel c).isActive = true ∧ (s.channel c).direction = .fromMemory)
    (lowest : ∀ d, d < c →
      ¬((s.channel d).bound = some a.handle ∧ (s.channel d).isActive = true ∧ (s.channel d).direction = .fromMemory)) :
    s.amendBlocker a = some c := by
  unfold State.amendBlocker
  rw [if_pos (by simp [selects, read_only])]
  exact s.activeBound_some _ _ c (by simpa using blocks) (by simpa using lowest)

/-- Settles O23: AMEND writes the selected fields, by its checks in order. -/
theorem amendWritesTheSelectedFields : Obligations.AmendWritesTheSelectedFields := by
  constructor
  · intro w
    exact ⟨handleOf_val (bits_lt _ _ _), rfl, rfl, rfl, rfl, CookieOp.ofCode_eq (bits_lt _ _ _),
      Width.ofCode_eq (bits_lt _ _ _), quarter_val (bits_lt _ _ _), EntryAccess.ofCode_eq (bits_lt _ _ _), rfl, rfl⟩
  · intro s x running is_amend a e bad blocks
    have completed : exec .amend s = .next (s.completeAmend a) := by
      rw [exec_amend, s.executingArgs_eq_some x 3 running is_amend]
      rfl
    rw [completed]
    have passes (not_free : e.state ≠ .free) (not_fenced : e.state ≠ .fenced) :
        ¬(decide ((s.entry a.handle).state = .free) || decide ((s.entry a.handle).state = .fenced)) = true := by
      simpa using ⟨not_free, not_fenced⟩
    unfold State.completeAmend
    dsimp only
    refine ⟨fun state => ?_, fun not_free not_fenced is_bad => ?_,
      fun c not_free not_fenced not_bad selects read_only blocked lowest => ?_,
      fun not_free not_fenced not_bad clear => ?_⟩
    · rw [if_pos (by simpa using state)]
      rfl
    all_goals rw [if_neg (passes not_free not_fenced)]
    · rw [if_pos ((a.badField_iff e).2 is_bad)]
      rfl
    · rw [if_neg fun is_bad => not_bad ((a.badField_iff e).1 is_bad),
        State.amendBlocker_some selects read_only blocked lowest]
      rfl
    · rw [if_neg fun is_bad => not_bad ((a.badField_iff e).1 is_bad), State.amendBlocker_none clear]
      simp only [AmendArgs.apply, AmendArgs.newCookie_eq]
      rfl

/-! ## RETIRE -/

/-- Settles O24: RETIRE frees the entry, or fences it while accesses are in flight, by its checks in order. -/
theorem retireFreesOrFences : Obligations.RetireFreesOrFences := by
  intro s x running is_retire h e blocks
  have completed : exec .retire s = .next (s.completeRetire h) := by
    rw [exec_retire, s.executingArgs_eq_some x 4 running is_retire]
    rfl
  rw [completed]
  have passes (not_free : e.state ≠ .free) (not_fenced : e.state ≠ .fenced) :
      ¬(decide ((s.entry h).state = .free) || decide ((s.entry h).state = .fenced)) = true := by
    simpa using ⟨not_free, not_fenced⟩
  have unblocked (clear : ∀ c, ¬blocks c) : s.activeBound h (fun _ => true) = none :=
    s.activeBound_none h _ fun c blocked => clear c ⟨blocked.1, blocked.2.1⟩
  unfold State.completeRetire
  dsimp only
  refine ⟨fun state => ?_, fun c not_free not_fenced blocked lowest => ?_, fun live clear some_left => ?_,
    fun state clear => ?_⟩
  · rw [if_pos (by simpa using state)]
    rfl
  · have blocker : s.activeBound h (fun _ => true) = some c :=
      s.activeBound_some h _ c ⟨blocked.1, blocked.2, rfl⟩ fun d below blocked => lowest d below ⟨blocked.1, blocked.2.1⟩
    rw [if_neg (passes not_free not_fenced), blocker]
    rfl
  · have live : (s.entry h).state = .live := live
    rw [if_neg (passes (by rw [live]; decide) (by rw [live]; decide)), unblocked clear]
    dsimp only
    rw [if_pos (by simpa [live] using some_left)]
    rfl
  · have settled : (s.entry h).state ≠ .free ∧ (s.entry h).state ≠ .fenced ∧
        ¬(decide ((s.entry h).state = .live) && decide ((s.entry h).inFlight ≠ 0)) = true := by
      obtain state | state | ⟨live, zero⟩ := state
      · simp [show (s.entry h).state = _ from state]
      · simp [show (s.entry h).state = _ from state]
      · simp [show (s.entry h).state = _ from live, show (s.entry h).inFlight = 0 from zero]
    obtain ⟨not_free, not_fenced, not_in_flight⟩ := settled
    rw [if_neg (passes not_free not_fenced), unblocked clear]
    dsimp only
    rw [if_neg not_in_flight, State.freeEntry, if_neg not_fenced]
    rfl

end Sys2Proof.Machine

/-! QUERY and SWEEP (04), and the registers whose write is their whole behaviour. -/

namespace Sys2Proof.Machine

/-! ## QUERY -/

/-- A field of a word made of a number. -/
theorem bits_ofNat (n hi lo : Nat) : bits (BitVec.ofNat 32 n) hi lo = n % 4294967296 / 2 ^ lo % 2 ^ (hi + 1 - lo) := by
  rw [bits, BitVec.toNat_ofNat]

/-- A position of a word is its one-bit field. -/
theorem getLsbD_of_bits {w : Word} {i : Nat} {b : Bool} (field : bits w i i = b.toNat) : w.getLsbD i = b := by
  have width : i + 1 - i = 1 := by omega
  rw [bits, width, pow_one] at field
  rw [BitVec.getLsbD, Nat.testBit_eq_decide_div_mod_eq, field]
  cases b <;> rfl

theorem toNat_le_one (b : Bool) : b.toNat ≤ 1 := by cases b <;> decide

theorem EntryState.code_lt (x : EntryState) : x.code < 8 := by cases x <;> decide
theorem EntryAccess.code_lt (x : EntryAccess) : x.code < 2 := by cases x <;> decide
theorem Space.code_lt (x : Space) : x.code < 4 := by cases x <;> decide
theorem Width.code_lt (x : Width) : x.code < 4 := by cases x <;> decide

theorem Entry.epochNumber_lt (e : Entry) : e.epochNumber < 65536 := by
  unfold Entry.epochNumber
  split
  · decide
  next epoch _ => exact epoch.isLt

/-- Result word 0 of a QUERY as a number (10.4). -/
theorem State.queryWords_at0 {s : State} {h : Handle} (count : (s.entry h).inFlight ≤ 9) :
    (s.queryWords h).at0 = BitVec.ofNat 32
      ((s.entry h).state.code + 8 * (s.entry h).access.code + 16 * (s.entry h).inFlight + 256 * (s.entry h).slot.val +
        1024 * (s.entry h).space.code + 4096 * (s.entry h).width.code + 16384 * (s.entry h).timingClass.val +
        65536 * (s.entry h).epochNumber) := by
  have state := (s.entry h).state.code_lt
  have access := (s.entry h).access.code_lt
  have slot := (s.entry h).slot.isLt
  have space := (s.entry h).space.code_lt
  have width := (s.entry h).width.code_lt
  have timing := (s.entry h).timingClass.isLt
  have epoch := (s.entry h).epochNumber_lt
  apply pack_eq
  simp only [packSum_cons, packSum_nil, two_pow_table]
  omega

theorem State.queryWords_at1 (s : State) (h : Handle) :
    (s.queryWords h).at1 =
      BitVec.ofNat 32 ((s.entry h).firstGranule % 65536 + 65536 * ((s.entry h).granuleCount % 65536)) := by
  apply pack_eq
  simp only [packSum_cons, packSum_nil, two_pow_table]
  omega

/-- Result word 2 of a QUERY as a number (10.4, R175). -/
theorem State.queryWords_at2 {s : State} {h : Handle} (offset : (s.entry h).moduleOffset < 67108864) :
    (s.queryWords h).at2 = BitVec.ofNat 32
      ((s.entry h).moduleOffset + 67108864 * (s.entry h).cookie.isSome.toNat + 134217728 * (s.entry h).used.toNat +
        268435456 * (s.boundTo 0 h).toNat + 536870912 * (s.boundTo 1 h).toNat + 1073741824 * (s.boundTo 2 h).toNat +
        2147483648 * (s.boundTo 3 h).toNat) := by
  apply pack_eq
  simp only [packSum_cons, packSum_nil, two_pow_table, flagBit_mod, Nat.reducePow]
  omega

theorem State.queryWords_at3 (s : State) (h : Handle) :
    (s.queryWords h).at3 = (s.entry h).cookie.getD (BitVec.ofNat 32 h.val) := by
  simp only [State.queryWords]
  cases (s.entry h).cookie <;> rfl

/-- Settles O25: QUERY reports the entry and its channels, and clears the used mark after it if asked to. -/
theorem queryReportsTheEntry : Obligations.QueryReportsTheEntry := by
  intro s x running is_query h e epoch count first granules offset
  have completed : exec .query s = .next (s.completeQuery h (x.args.at0.getLsbD 8)) := by
    rw [exec_query, s.executingArgs_eq_some x 6 running is_query]
    rfl
  have words : (s.completeQuery h (x.args.at0.getLsbD 8)).command.results = s.queryWords h := rfl
  refine ⟨_, completed, rfl, ?_⟩
  rw [words]
  have state := e.state.code_lt
  have access := e.access.code_lt
  have slot := e.slot.isLt
  have space := e.space.code_lt
  have width := e.width.code_lt
  have timing := e.timingClass.isLt
  have epoch_lt : epoch < 65536 := e.epochNumber_lt
  have at0 : (s.queryWords h).at0 = BitVec.ofNat 32
      (e.state.code + 8 * e.access.code + 16 * e.inFlight + 256 * e.slot.val + 1024 * e.space.code +
        4096 * e.width.code + 16384 * e.timingClass.val + 65536 * epoch) := State.queryWords_at0 count
  have at1 : (s.queryWords h).at1 = BitVec.ofNat 32 (e.firstGranule % 65536 + 65536 * (e.granuleCount % 65536)) :=
    s.queryWords_at1 h
  have at2 : (s.queryWords h).at2 = BitVec.ofNat 32
      (e.moduleOffset + 67108864 * e.cookie.isSome.toNat + 134217728 * e.used.toNat + 268435456 * (s.boundTo 0 h).toNat +
        536870912 * (s.boundTo 1 h).toNat + 1073741824 * (s.boundTo 2 h).toNat +
        2147483648 * (s.boundTo 3 h).toNat) := State.queryWords_at2 offset
  have cookie := toNat_le_one e.cookie.isSome
  have used := toNat_le_one e.used
  have bound0 := toNat_le_one (s.boundTo 0 h)
  have bound1 := toNat_le_one (s.boundTo 1 h)
  have bound2 := toNat_le_one (s.boundTo 2 h)
  have bound3 := toNat_le_one (s.boundTo 3 h)
  rw [at0, at1, at2]
  simp only [bits_ofNat]
  refine ⟨by omega, by omega, by omega, by omega, by omega, by omega, by omega, by omega, by omega, by omega, by omega,
    getLsbD_of_bits ?_, getLsbD_of_bits ?_, fun c => getLsbD_of_bits ?_, s.queryWords_at3 h⟩
  all_goals rw [bits_ofNat]
  · omega
  · omega
  · change _ = (s.boundTo c h).toNat
    fin_cases c
    all_goals
      simp only [Fin.zero_eta, Fin.mk_one, Fin.reduceFinMk, Fin.isValue]
      omega

/-! ## SWEEP -/

/-- What a SWEEP of slot `i` does with an entry (R87). -/
theorem Entry.sweptFree_iff (e : Entry) (i : SlotId) :
    (e.isOf i && e.sweptFree) = true ↔
      e.slot = i ∧ (e.state = .staged ∨ e.state = .orphaned ∨ (e.state = .live ∧ e.inFlight = 0)) := by
  unfold Entry.isOf Entry.sweptFree
  cases state : e.state <;> simp

theorem Entry.sweptFenced_iff (e : Entry) (i : SlotId) :
    (e.isOf i && e.sweptFenced) = true ↔ e.slot = i ∧ e.state = .live ∧ e.inFlight ≠ 0 := by
  unfold Entry.isOf Entry.sweptFenced
  cases state : e.state <;> simp

theorem Entry.sweptPassed_iff (e : Entry) (i : SlotId) :
    (e.isOf i && e.state == .fenced) = true ↔ e.slot = i ∧ e.state = .fenced := by
  unfold Entry.isOf
  cases state : e.state <;> simp

theorem Entry.isOf_iff (e : Entry) (i : SlotId) : e.isOf i = true ↔ e.slot = i ∧ e.state ≠ .free := by
  simp [Entry.isOf]

theorem countHandles_eq {p : Handle → Bool} {q : Handle → Prop} [DecidablePred q] (same : ∀ h, p h = true ↔ q h) :
    countHandles p = handles.countP (fun h => decide (q h)) := by
  unfold countHandles
  congr 1
  funext h
  rw [Bool.eq_iff_iff, same, decide_eq_true_eq]

/-- The lowest entry of the slot with an active channel, and the lowest of its channels (R87). -/
theorem State.sweepBlocker_some {s : State} {i : SlotId} {h : Handle} {c : ChannelId} (of_slot : (s.entry h).isOf i = true)
    (blocks : s.Blocks h c) (lowest : ∀ k d, k < h → (s.entry k).isOf i = true → ¬s.Blocks k d)
    (lowest_channel : ∀ d, d < c → ¬s.Blocks h d) : s.sweepBlocker i = some (h, c) := by
  unfold State.sweepBlocker
  refine findSome_finRange _ h (h, c) ?_ fun k below => ?_
  · rw [if_pos of_slot, s.activeBound_some h _ c ⟨blocks.1, blocks.2, rfl⟩ fun d below blocked =>
      lowest_channel d below ⟨blocked.1, blocked.2.1⟩]
    rfl
  · split
    next of_k =>
      rw [s.activeBound_none k _ fun d blocked => lowest k d below of_k ⟨blocked.1, blocked.2.1⟩]
      rfl
    · rfl

theorem State.sweepBlocker_none {s : State} {i : SlotId} (clear : ∀ h c, (s.entry h).isOf i = true → ¬s.Blocks h c) :
    s.sweepBlocker i = none := by
  unfold State.sweepBlocker
  rw [List.findSome?_eq_none_iff]
  intro h _
  split
  next of_slot =>
    rw [s.activeBound_none h _ fun d blocked => clear h d of_slot ⟨blocked.1, blocked.2.1⟩]
    rfl
  · rfl

/-- A SWEEP that is not refused counts the entries that it frees, fences and passes over (R87). -/
theorem State.completeSweep_clear {s : State} {i : SlotId} (clear : s.sweepBlocker i = none) :
    s.completeSweep i =
      (s.sweptAt i).complete .ok
        (resultWords (countHandles fun h => (s.entry h).isOf i && (s.entry h).sweptFree)
          (countHandles fun h => (s.entry h).isOf i && (s.entry h).sweptFenced)
          (countHandles fun h => (s.entry h).isOf i && (s.entry h).state == .fenced)) := by
  unfold State.completeSweep
  rw [clear]
  rfl

/-- The channels after a SWEEP: those bound to an entry that it frees lose their binding (R87, R157). -/
theorem State.channel_sweptAt (s : State) (i : SlotId) (c : ChannelId) :
    (s.sweptAt i).channel c =
      { s.channel c with
        bound := (s.channel c).bound.bind fun h =>
          if (s.entry h).isOf i && (s.entry h).sweptFree then none else some h } := by
  have unbound : (s.sweptAt i).channel c =
      (s.unbindWhere fun h => (s.entry h).isOf i && (s.entry h).sweptFree).channel c := rfl
  rw [unbound, State.channel_unbindWhere]
  split
  next h bound =>
    rw [bound, Option.bind_some]
    split
    · rfl
    · rw [← bound]
  next bound =>
    rw [bound, Option.bind_none, ← bound]

/-- Settles O27: SWEEP is refused whole, or frees and fences the slot's entries and counts them. -/
theorem sweepFreesOrFencesTheSlot : Obligations.SweepFreesOrFencesTheSlot := by
  intro s x running is_sweep i blocks
  have completed : exec .sweep s = .next (s.completeSweep i) := by
    rw [exec_sweep, s.executingArgs_eq_some x 8 running is_sweep]
    rfl
  rw [completed]
  have blocks_iff (h : Handle) (c : ChannelId) : blocks h c ↔ (s.entry h).isOf i = true ∧ s.Blocks h c := by
    rw [Entry.isOf_iff, and_assoc]
  constructor
  · intro h c blocked lowest lowest_channel
    obtain ⟨of_slot, bound⟩ := (blocks_iff h c).1 blocked
    have blocker : s.sweepBlocker i = some (h, c) := State.sweepBlocker_some of_slot bound
      (fun k d below of_k blocked => lowest k d below ((blocks_iff k d).2 ⟨of_k, blocked⟩))
      fun d below blocked => lowest_channel d below ((blocks_iff h d).2 ⟨of_slot, blocked⟩)
    unfold State.completeSweep
    rw [blocker]
    rfl
  · intro clear freed fenced passed
    have unblocked : s.sweepBlocker i = none :=
      State.sweepBlocker_none fun h c of_slot blocked => clear h c ((blocks_iff h c).2 ⟨of_slot, blocked⟩)
    have freed_iff (h : Handle) : ((s.entry h).isOf i && (s.entry h).sweptFree) = true ↔ freed h :=
      (s.entry h).sweptFree_iff i
    have fenced_iff (h : Handle) : ((s.entry h).isOf i && (s.entry h).sweptFenced) = true ↔ fenced h :=
      (s.entry h).sweptFenced_iff i
    have passed_iff (h : Handle) : ((s.entry h).isOf i && (s.entry h).state == .fenced) = true ↔ passed h :=
      (s.entry h).sweptPassed_iff i
    rw [State.completeSweep_clear unblocked, countHandles_eq freed_iff, countHandles_eq fenced_iff,
      countHandles_eq passed_iff]
    refine ⟨_, rfl, rfl, fun h is_freed => ?_, fun h is_fenced => ?_, fun h not_freed not_fenced => ?_, fun c => ?_⟩
    · obtain ⟨of_slot, frees⟩ := Bool.and_eq_true_iff.1 ((freed_iff h).2 is_freed)
      refine (s.entry_sweptAt i h).trans ?_
      rw [if_pos of_slot, Entry.swept, if_pos frees]
    · obtain ⟨of_slot, fences⟩ := Bool.and_eq_true_iff.1 ((fenced_iff h).2 is_fenced)
      have not_freed : ¬(s.entry h).sweptFree = true := fun frees => by
        have is_freed := (freed_iff h).1 (by rw [of_slot, frees]; rfl)
        obtain ⟨_, live, some_left⟩ := is_fenced
        obtain ⟨_, staged | orphaned | ⟨_, zero⟩⟩ := is_freed
        · simp [live] at staged
        · simp [live] at orphaned
        · exact some_left zero
      refine (s.entry_sweptAt i h).trans ?_
      rw [if_pos of_slot, Entry.swept, if_neg not_freed, if_pos fences]
    · refine (s.entry_sweptAt i h).trans ?_
      split
      next of_slot =>
        rw [Entry.swept, if_neg fun frees => not_freed ((freed_iff h).1 (by rw [of_slot, frees]; rfl)),
          if_neg fun fences => not_fenced ((fenced_iff h).1 (by rw [of_slot, fences]; rfl))]
      · rfl
    · refine (s.channel_sweptAt i c).trans ?_
      cases bound : (s.channel c).bound with
      | none => rfl
      | some h =>
        rw [Option.bind_some]
        dsimp only
        by_cases is_freed : freed h
        · rw [if_pos ((freed_iff h).2 is_freed), if_pos is_freed]
        · rw [if_neg (fun frees => is_freed ((freed_iff h).1 frees)), if_neg is_freed]

/-! ## Registers -/

/-- A one clears a write-one mark, and a zero leaves it (R178). -/
theorem State.writePortStatus_eq (s : State) (value : Word) :
    s.writePortStatus value =
      { s with port := { s.port with configRefused := s.port.configRefused && !value.getLsbD 0 } } := by
  unfold State.writePortStatus
  split
  next one => simp only [one, Bool.not_true, Bool.and_false]
  next zero =>
    have zero : value.getLsbD 0 = false := by simpa using zero
    simp only [zero, Bool.not_false, Bool.and_true]

theorem State.writeCollectionLimit_eq (s : State) (value : Word) :
    s.writeCollectionLimit value =
      { s with collectionLimit := if value.toNat % 16 = 0 then 1 else value.toNat % 16 } := by
  have field : bits value 3 0 = value.toNat % 16 := by simp [bits]
  unfold State.writeCollectionLimit atLeastOne
  rw [field]

/-- A setting word written: that word alone takes the named positions of the value (R176). -/
theorem ChannelSettings.set_eq (w : ChannelSettings) (word : SettingWord) (value : Word) :
    w.set word (settingValue word value) =
      { control := if word = .control then value &&& 0x7F3F else w.control
        memoryAddress := if word = .memoryAddress then value else w.memoryAddress
        displacement := if word = .displacement then value &&& 0x0FFFFFFF else w.displacement
        count := if word = .count then value &&& 0xFFFF else w.count } := by
  cases word <;> rfl

/-- Settles O28: the registers whose write is their whole behaviour. -/
theorem plainRegisterWrites : Obligations.PlainRegisterWrites := by
  intro s i value
  refine ⟨?_, rfl, ?_, rfl, rfl, ⟨_, rfl, fun p => ?_⟩, fun word => ?_⟩
  · rw [exec_portStatusWrite, State.writePortStatus_eq]
  · rw [exec_collectionLimitWrite, State.writeCollectionLimit_eq]
  · fin_cases p <;> rfl
  · rw [exec_channelSettingWrite, State.writeSetting, ChannelSettings.set_eq]

theorem regionOf_val (value : Word) : (regionOf value).val = value.toNat % 16 := by
  simp [regionOf, bits]

/-- Settles O29: the enable is always taken, the region only with an empty table or unchanged. -/
theorem baseWriteNeedsAnEmptyTable : Obligations.BaseWriteNeedsAnEmptyTable := by
  intro s value
  have same_region : regionOf value = s.port.region ↔ value.toNat % 16 = s.port.region.val := by
    rw [← regionOf_val, Fin.ext_iff]
  refine ⟨fun allowed => ⟨_, exec_apertureSpaceBaseWrite value s, ?_⟩, fun h used moves => ?_⟩
  · have taken : s.port.writeBase value s.allFree =
        { s.port with region := regionOf value, enable := value.getLsbD 8 } :=
      if_pos (by simpa [State.allFree_iff, same_region] using allowed)
    unfold State.writeBase
    rw [taken]
    exact ⟨regionOf_val value, rfl, rfl⟩
  · have refused : s.port.writeBase value s.allFree =
        { s.port with enable := value.getLsbD 8, configRefused := true } := by
      refine if_neg fun allowed => ?_
      obtain all_free | same := (Bool.or_eq_true_iff.1 allowed)
      · exact used ((State.allFree_iff s).1 all_free h)
      · exact moves (same_region.1 (of_decide_eq_true same))
    rw [exec_apertureSpaceBaseWrite, State.writeBase, refused]

end Sys2Proof.Machine

/-! The control window (10): what a write and a read of each location do. -/

namespace Sys2Proof.Machine

/-! ## Writes of a location -/

/-- A write of word `n`, at byte offset `k`, is the write of the register there (R92). -/
theorem exec_write_register {k n : Nat} {r : Register} (offset : k = 4 * n) (inside : n < 1024) (at_n : registerAt n = some r)
    (v : Word) (l : Lines) (s : State) :
    exec (.controlWindowWrite (BitVec.ofNat 12 k) v l) s = .next ((s.writeRegister r v l).answered .ok) := by
  have number : (BitVec.ofNat 12 k).toNat = 4 * n := by
    rw [BitVec.toNat_ofNat]
    omega
  have word : (BitVec.ofNat 12 k).toNat / 4 = n := by omega
  rw [exec_controlWindowWrite _ v l s (by omega), word, State.writeWindow, at_n]

theorem exec_write_slotRegister {k m : Nat} {r : Register} (i : SlotId) (offset : k = 0x100 + 0x20 * i.val + 4 * m)
    (inside : m < 8) (at_m : slotRegister i m = some r) (v : Word) (l : Lines) (s : State) :
    exec (.controlWindowWrite (BitVec.ofNat 12 k) v l) s = .next ((s.writeRegister r v l).answered .ok) :=
  exec_write_register (n := 64 + 8 * i.val + m) (by omega) (by omega) (by rw [registerAt_slot i m inside, at_m]) v l s

theorem exec_write_channelRegister {k m : Nat} {r : Register} (c : ChannelId) (offset : k = 0x200 + 0x40 * c.val + 4 * m)
    (inside : m < 16) (at_m : channelRegister c m = some r) (v : Word) (l : Lines) (s : State) :
    exec (.controlWindowWrite (BitVec.ofNat 12 k) v l) s = .next ((s.writeRegister r v l).answered .ok) :=
  exec_write_register (n := 128 + 16 * c.val + m) (by omega) (by omega) (by rw [registerAt_channel c m inside, at_m]) v l s

/-- The registers of the five-word groups of the event unit (10.7). -/
theorem registerAt_event (i : Fin 4) : registerAt (192 + i.val) = some (.event (.slot i)) := by
  revert i
  decide

theorem registerAt_enable (i : Fin 4) : registerAt (200 + i.val) = some (.enable (.slot i)) := by
  revert i
  decide

theorem registerAt_force (i : Fin 4) : registerAt (208 + i.val) = some (.force (.slot i)) := by
  revert i
  decide

theorem registerAt_argument (i : Fin 4) : registerAt (16 + i.val) = some (.argument i) := by
  revert i
  decide

theorem registerAt_result (i : Fin 4) : registerAt (24 + i.val) = some (.result i) := by
  revert i
  decide

/-! ## Request words -/

/-- The code of a supply class in a slot request word (10.5). -/
def supplyCode : SupplyClass → Nat
  | .v1v8 => 1
  | .v3v3 => 2
  | .v5v0 => 3

theorem slotRequestOf_supply {v : Word} (k : SupplyClass) (request : bits v 3 0 = 1) (class_ : bits v 10 8 = supplyCode k) :
    slotRequestOf v = .supply k := by
  cases k <;> simp only [slotRequestOf, request, class_, supplyCode]

theorem slotRequestOf_unused {v : Word} (unused : badSlotRequest v = true) : slotRequestOf v = .unused := beq_iff_eq.1 unused

theorem channelRequestOf_unused {v : Word} (unused : badChannelRequest v = true) : channelRequestOf v = .unused :=
  beq_iff_eq.1 unused

/-- A write of a slot's request word is the command of the request it carries (R17). -/
theorem exec_write_slotRequest {v : Word} {request : SlotRequest} (i : SlotId) (carries : slotRequestOf v = request)
    (l : Lines) (s : State) :
    exec (.controlWindowWrite (BitVec.ofNat 12 (0x100 + 0x20 * i.val + 8)) v l) s =
      match request with
      | .supply k => exec (.supply i k l) s
      | .supplyOff => exec (.supplyOff i) s
      | .probe => exec (.probe i) s
      | .unused => exec (.badRequest i v) s := by
  rw [exec_write_slotRegister (m := 2) i (by omega) (by decide) rfl]
  simp only [State.writeRegister, State.slotRequest, carries]
  cases request <;> rfl

/-- A write of a channel's request word is the command of the request it carries (R143). -/
theorem exec_write_channelRequest {v : Word} {request : ChannelRequest} (c : ChannelId)
    (carries : channelRequestOf v = request) (l : Lines) (s : State) :
    exec (.controlWindowWrite (BitVec.ofNat 12 (0x200 + 0x40 * c.val + 0)) v l) s =
      match request with
      | .configure => exec (.configure c) s
      | .arm => exec (.arm c l) s
      | .start => exec (.start c l) s
      | .pause => exec (.pause c) s
      | .resume => exec (.resume c l) s
      | .cancel => exec (.cancel c) s
      | .unmask => exec (.unmask c l) s
      | .unused => exec (.channelBadRequest c v) s := by
  rw [exec_write_channelRegister (m := 0) c (by omega) (by decide) rfl]
  simp only [State.writeRegister, State.channelRequest, carries]
  cases request <;> rfl

theorem slotRequestOf_supplyOff {v : Word} (request : bits v 3 0 = 1) (class_ : bits v 10 8 = 0) :
    slotRequestOf v = .supplyOff := by
  simp only [slotRequestOf, request, class_]

theorem slotRequestOf_probe {v : Word} (request : bits v 3 0 = 2) : slotRequestOf v = .probe := by
  simp only [slotRequestOf, request]

theorem channelRequestOf_eq {v : Word} {n : Nat} (code : bits v 3 0 = n) (request : ChannelRequest)
    (names : (n, request) ∈ [(1, ChannelRequest.configure), (2, .arm), (3, .start), (4, .pause), (5, .resume), (6, .cancel),
      (7, .unmask)]) : channelRequestOf v = request := by
  unfold channelRequestOf
  rw [code]
  simp only [List.mem_cons, Prod.mk.injEq, List.not_mem_nil, or_false] at names
  obtain ⟨rfl, rfl⟩ | ⟨rfl, rfl⟩ | ⟨rfl, rfl⟩ | ⟨rfl, rfl⟩ | ⟨rfl, rfl⟩ | ⟨rfl, rfl⟩ | ⟨rfl, rfl⟩ := names
  all_goals rfl

/-- A write of device control by its two bits (R174). -/
theorem exec_write_deviceControl (v : Word) (l : Lines) (s : State) :
    exec (.controlWindowWrite 0x000 v l) s =
      .next ((if v.getLsbD 0 then s.softReset else if v.getLsbD 1 then s.channelClear l else s).answered .ok) :=
  exec_write_register (k := 0) (n := 0) rfl (by decide) rfl v l s

/-- Settles O30: a write of a location is the command of its register. -/
theorem windowWritesAreTheRegistersCommands : Obligations.WindowWritesAreTheRegistersCommands := by
  intro s v l
  refine ⟨fun reset => ?_, fun no_reset clear => ?_, fun no_reset no_clear => ?_,
    exec_write_register (k := 0x004) (n := 1) rfl (by decide) rfl v l s,
    exec_write_register (k := 0x008) (n := 2) rfl (by decide) rfl v l s,
    exec_write_register (k := 0x00C) (n := 3) rfl (by decide) rfl v l s,
    exec_write_register (k := 0x010) (n := 4) rfl (by decide) rfl v l s,
    exec_write_register (k := 0x050) (n := 20) rfl (by decide) rfl v l s,
    exec_write_register (k := 0x054) (n := 21) rfl (by decide) rfl v l s,
    exec_write_register (k := 0x310) (n := 196) rfl (by decide) rfl v l s,
    exec_write_register (k := 0x330) (n := 204) rfl (by decide) rfl v l s,
    exec_write_register (k := 0x350) (n := 212) rfl (by decide) rfl v l s,
    exec_write_register (k := 0x360) (n := 216) rfl (by decide) rfl v l s,
    exec_write_register (k := 0x37C) (n := 223) rfl (by decide) rfl v l s, fun i => ?_⟩
  · rw [exec_write_deviceControl, if_pos reset]
    rfl
  · rw [exec_write_deviceControl, if_neg (by rw [no_reset]; decide), if_pos clear]
    rfl
  · rw [exec_write_deviceControl, if_neg (by rw [no_reset]; decide), if_neg (by rw [no_clear]; decide)]
  intro slotAt channelAt
  have bad_slot (unused : (bits v 3 0 = 1 ∧ 4 ≤ bits v 10 8) ∨ bits v 3 0 = 0 ∨ 3 ≤ bits v 3 0) :
      slotRequestOf v = .unused := slotRequestOf_unused ((badSlotRequest_iff v).2 (by omega))
  have bad_channel (unused : bits v 3 0 = 0 ∨ 8 ≤ bits v 3 0) : channelRequestOf v = .unused :=
    channelRequestOf_unused ((badChannelRequest_iff v).2 unused)
  have requests (n : Nat) (request : ChannelRequest) (code : bits v 3 0 = n) := fun names =>
    exec_write_channelRequest i (channelRequestOf_eq code request names) l s
  exact ⟨fun k request class_ =>
      exec_write_slotRequest i (slotRequestOf_supply k request (class_.trans (by cases k <;> rfl))) l s,
    fun request class_ => exec_write_slotRequest i (slotRequestOf_supplyOff request class_) l s,
    fun request => exec_write_slotRequest i (slotRequestOf_probe request) l s,
    fun unused => exec_write_slotRequest i (bad_slot unused) l s,
    exec_write_slotRegister (m := 4) i rfl (by decide) rfl v l s,
    exec_write_slotRegister (m := 5) i rfl (by decide) rfl v l s,
    exec_write_slotRegister (m := 6) i rfl (by decide) rfl v l s,
    fun code => requests 1 .configure code (by decide), fun code => requests 2 .arm code (by decide),
    fun code => requests 3 .start code (by decide), fun code => requests 4 .pause code (by decide),
    fun code => requests 5 .resume code (by decide), fun code => requests 6 .cancel code (by decide),
    fun code => requests 7 .unmask code (by decide),
    fun unused => exec_write_channelRequest i (bad_channel unused) l s,
    exec_write_channelRegister (m := 1) i rfl (by decide) rfl v l s,
    exec_write_channelRegister (m := 2) i rfl (by decide) rfl v l s,
    exec_write_channelRegister (m := 3) i rfl (by decide) rfl v l s,
    exec_write_channelRegister (m := 4) i rfl (by decide) rfl v l s,
    exec_write_register (n := 192 + i.val) (by omega) (by omega) (registerAt_event i) v l s,
    exec_write_register (n := 200 + i.val) (by omega) (by omega) (registerAt_enable i) v l s,
    exec_write_register (n := 208 + i.val) (by omega) (by omega) (registerAt_force i) v l s⟩

end Sys2Proof.Machine

/-! Reads of the control window (10.1 to 10.7): which locations hold a register, and the layout of each word that software reads. -/

namespace Sys2Proof.Machine

/-! ## Locations without a register -/

theorem lowRegister_none : ∀ n < 64, ¬(n < 5 ∨ (16 ≤ n ∧ n < 22) ∨ (24 ≤ n ∧ n < 28)) → lowRegister n = none := by decide

theorem slotRegister_none (i : SlotId) : slotRegister i 7 = none := rfl

theorem channelRegister_none (c : ChannelId) : ∀ k < 16, 13 ≤ k → channelRegister c k = none := by
  revert c
  decide

theorem eventRegister_none_low : ∀ n < 32, ¬(n < 5 ∨ (8 ≤ n ∧ n < 13) ∨ (16 ≤ n ∧ n < 21) ∨ n = 24 ∨ n = 25 ∨ 28 ≤ n) →
    eventRegister n = none := by decide

/-- No event word stands past the fault release word (10.1). -/
theorem eventRegister_none_high {n : Nat} (high : 32 ≤ n) : eventRegister n = none := by
  have no_enable : ¬(decide (8 ≤ n) && decide (n < 13)) = true := by
    simp only [Bool.and_eq_true, decide_eq_true_eq]
    omega
  have no_force : ¬(decide (16 ≤ n) && decide (n < 21)) = true := by
    simp only [Bool.and_eq_true, decide_eq_true_eq]
    omega
  unfold eventRegister
  rw [if_neg (show ¬n < 5 by omega), if_neg no_enable, if_neg no_force]
  split
  case h_7 => rfl
  all_goals omega

/-- The locations of the window that hold no register (10.1). -/
theorem registerAt_none {n : Nat}
    (elsewhere : ¬(n < 5 ∨ (16 ≤ n ∧ n < 22) ∨ (24 ≤ n ∧ n < 28) ∨ (64 ≤ n ∧ n < 96 ∧ n % 8 < 7) ∨
      (128 ≤ n ∧ n < 192 ∧ n % 16 < 13) ∨ (192 ≤ n ∧ n < 197) ∨ (200 ≤ n ∧ n < 205) ∨ (208 ≤ n ∧ n < 213) ∨
      n = 216 ∨ n = 217 ∨ (220 ≤ n ∧ n < 224))) : registerAt n = none := by
  unfold registerAt
  split
  · exact lowRegister_none n (by omega) (by omega)
  · split
    · have last : (n - 64) % 8 = 7 := by omega
      rw [last]
      exact slotRegister_none _
    · split
      · rfl
      · split
        · exact channelRegister_none _ _ (by omega) (by omega)
        · by_cases low : n - 192 < 32
          · exact eventRegister_none_low _ low (by omega)
          · exact eventRegister_none_high (by omega)

/-! ## Reads of a location -/

/-- What a word answers on lanes 0 to 3 (R89, R92). -/
def wordAnswer (w : Word) : Answer := .okData [(0, byteAt w 0), (1, byteAt w 1), (2, byteAt w 2), (3, byteAt w 3)]

theorem windowData_eq (w : Word) : windowData w = wordAnswer w := rfl

/-- A read at byte offset `k` of the control window answers the word `value` and does nothing else. -/
def State.Shows (s : State) (l : Lines) (k value : Nat) : Prop :=
  exec (.apertureRead (BitVec.ofNat 32 (4293918720 + 65536 * s.port.location.val + k)) .four l) s =
    .next (s.answered (wordAnswer (BitVec.ofNat 32 value)))

theorem State.readWindow_none {s : State} {n : Nat} (none_there : registerAt n = none) :
    s.readWindow n = s.answered (wordAnswer 0) := by
  unfold State.readWindow
  rw [none_there]
  rfl

theorem State.readWindow_event {s : State} {n : Nat} {g : EventGroup} (at_n : registerAt n = some (.event g)) :
    s.readWindow n = s.readEventWord g := by
  unfold State.readWindow
  rw [at_n]

theorem State.shows_none {s : State} {l : Lines} {k n : Nat} (offset : k = 4 * n) (inside : n < 1024)
    (none_there : registerAt n = none) : s.Shows l k 0 := by
  subst offset
  unfold State.Shows
  rw [exec_apertureRead_window s l n inside, State.readWindow_none none_there]
  rfl

theorem State.shows_register {s : State} {l : Lines} {k n value : Nat} {r : Register} (offset : k = 4 * n)
    (inside : n < 1024) (at_n : registerAt n = some r) (plain : ∀ g, r ≠ .event g)
    (word : s.readRegister r = BitVec.ofNat 32 value) : s.Shows l k value := by
  subst offset
  unfold State.Shows
  rw [exec_apertureRead_window s l n inside, s.readWindow_register n r at_n plain, word]
  rfl

theorem State.shows_slot {s : State} {l : Lines} {k m value : Nat} {r : Register} (i : SlotId)
    (offset : k = 0x100 + 0x20 * i.val + 4 * m) (inside : m < 8) (at_m : slotRegister i m = some r)
    (plain : ∀ g, r ≠ .event g) (word : s.readRegister r = BitVec.ofNat 32 value) : s.Shows l k value :=
  State.shows_register (n := 64 + 8 * i.val + m) (by omega) (by omega) (by rw [registerAt_slot i m inside, at_m]) plain word

theorem State.shows_channel {s : State} {l : Lines} {k m value : Nat} {r : Register} (c : ChannelId)
    (offset : k = 0x200 + 0x40 * c.val + 4 * m) (inside : m < 16) (at_m : channelRegister c m = some r)
    (plain : ∀ g, r ≠ .event g) (word : s.readRegister r = BitVec.ofNat 32 value) : s.Shows l k value :=
  State.shows_register (n := 128 + 16 * c.val + m) (by omega) (by omega) (by rw [registerAt_channel c m inside, at_m])
    plain word

/-- A word of one field from bit 0 on. -/
theorem pack_low (size value : Nat) : pack [(0, size, value)] = BitVec.ofNat 32 (value % 2 ^ size) := by
  apply pack_eq
  rw [packSum_cons, packSum_nil, pow_zero, Nat.mul_one, Nat.add_zero]

/-- Two layouts agree when their fields do. -/
theorem add_field {a b n x y : Nat} (fields : a = b) (field : x = y) : a + n * x = b + n * y := by rw [fields, field]

/-! ## The statement -/

/-- Settles O31: a write off the registers, and what a read of each location answers. -/
theorem windowLocationsReadAndWrite : Obligations.WindowLocationsReadAndWrite := by
  intro s v l
  refine ⟨fun i => exec_write_register (n := 16 + i.val) (by omega) (by omega) (registerAt_argument i) v l s,
    fun o misaligned => exec_controlWindowWrite_misaligned o v l s misaligned, fun o aligned none_there => ?_,
    fun i k listed => ?_, fun n inside => ?_, ?_⟩
  · rw [exec_controlWindowWrite o v l s aligned, State.writeWindow, none_there]
  · simp only [List.mem_cons, List.not_mem_nil, or_false] at listed
    obtain rfl | rfl | rfl | rfl | rfl | rfl | rfl | rfl | rfl | rfl | rfl | rfl | rfl | rfl | rfl | rfl := listed
    · exact exec_write_register (n := 24 + i.val) (by omega) (by omega) (registerAt_result i) v l s
    · exact exec_write_slotRegister (m := 0) i rfl (by decide) rfl v l s
    · exact exec_write_slotRegister (m := 1) i (by omega) (by decide) rfl v l s
    · exact exec_write_slotRegister (m := 3) i (by omega) (by decide) rfl v l s
    · exact exec_write_channelRegister (m := 5) i (by omega) (by decide) rfl v l s
    · exact exec_write_channelRegister (m := 6) i (by omega) (by decide) rfl v l s
    · exact exec_write_channelRegister (m := 7) i (by omega) (by decide) rfl v l s
    · exact exec_write_channelRegister (m := 8) i (by omega) (by decide) rfl v l s
    · exact exec_write_channelRegister (m := 9) i (by omega) (by decide) rfl v l s
    · exact exec_write_channelRegister (m := 10) i (by omega) (by decide) rfl v l s
    · exact exec_write_channelRegister (m := 11) i (by omega) (by decide) rfl v l s
    · exact exec_write_channelRegister (m := 12) i (by omega) (by decide) rfl v l s
    · exact exec_write_register (n := 217) rfl (by decide) rfl v l s
    · exact exec_write_register (n := 220) rfl (by decide) rfl v l s
    · exact exec_write_register (n := 221) rfl (by decide) rfl v l s
    · exact exec_write_register (n := 222) rfl (by decide) rfl v l s
  · intro read word
    have reads : read = .next (s.readWindow n) := exec_apertureRead_window s l n inside
    refine ⟨fun none_there => ?_, fun r at_n plain => ?_, fun g at_n => ?_⟩
    · rw [reads, State.readWindow_none none_there]
      rfl
    · rw [reads, s.readWindow_register n r at_n plain]
      rfl
    · rw [reads, State.readWindow_event at_n]
      rfl
  intro holds
  have register {k n value : Nat} {r : Register} (offset : k = 4 * n) (inside : n < 1024) (at_n : registerAt n = some r)
      (plain : ∀ g, r ≠ .event g) (word : s.readRegister r = BitVec.ofNat 32 value) : holds k value :=
    State.shows_register offset inside at_n plain word
  refine ⟨fun n inside elsewhere => State.shows_none rfl inside (registerAt_none elsewhere), ?_⟩
  refine ⟨register (n := 0) rfl (by decide) rfl nofun rfl, register (n := 1) rfl (by decide) rfl nofun s.port.baseWord_eq,
    register (n := 2) rfl (by decide) rfl nofun ?_, register (n := 3) rfl (by decide) rfl nofun (pack_low 4 _),
    register (n := 4) rfl (by decide) rfl nofun (word_eq _), register (n := 20) rfl (by decide) rfl nofun rfl,
    register (n := 21) rfl (by decide) rfl nofun s.command.statusWord_eq, by decide, by decide, by decide, by decide,
    by decide, fun i => ⟨?_, ?_⟩, fun i => ?_, by decide, by decide, fun c => ?_, by decide, by decide, by decide,
    by decide, ?_⟩
  · exact (pack_low 1 _).trans (by rw [pow_one, flagBit_mod])
  · exact register (n := 16 + i.val) (by omega) (by omega) (registerAt_argument i) nofun (word_eq _)
  · exact register (n := 24 + i.val) (by omega) (by omega) (registerAt_result i) nofun (word_eq _)
  · intro at' slot unit member profile
    have field {k m value : Nat} {r : Register} (offset : k = 0x100 + 0x20 * i.val + 4 * m) (inside : m < 8)
        (at_m : slotRegister i m = some r) (plain : ∀ g, r ≠ .event g)
        (word : s.readRegister r = BitVec.ofNat 32 value) : holds k value :=
      State.shows_slot i offset inside at_m plain word
    refine ⟨field (m := 0) rfl (by decide) rfl nofun ?_, field (m := 1) rfl (by decide) rfl nofun ?_,
      field (m := 2) rfl (by decide) rfl nofun rfl, field (m := 3) rfl (by decide) rfl nofun ?_,
      field (m := 4) rfl (by decide) rfl nofun (pack_low 16 _),
      field (m := 5) rfl (by decide) rfl nofun slot.config.word_eq,
      field (m := 6) rfl (by decide) rfl nofun slot.config.profilesWord_eq⟩
    · refine slot.statusWord_eq.trans (congrArg (BitVec.ofNat 32) ?_)
      refine add_field (add_field (add_field (add_field (add_field rfl ?_) rfl) rfl) ?_) ?_
      · rcases slot.switchClass with _ | (_ | _ | _) <;> rfl
      · rcases slot.faultKind with _ | (_ | _ | _ | _) <;> rfl
      · rcases slot.timer with _ | ⟨_ | _ | _ | _, _⟩ <;> rfl
    · refine slot.identity.word_eq.trans (congrArg (BitVec.ofNat 32) ?_)
      refine add_field (add_field (add_field (add_field (add_field rfl ?_) rfl) rfl) rfl) rfl
      rcases slot.identity.kind with _ | (_ | _) <;> rfl
    · refine unit.statusWord_eq.trans (congrArg (BitVec.ofNat 32) ?_)
      refine add_field (add_field rfl ?_) rfl
      rcases unit.holder with _ | ⟨_, _, (_ | _ | _ | _)⟩ <;> rfl
  · intro at' channel settings
    have field {k m value : Nat} {r : Register} (offset : k = 0x200 + 0x40 * c.val + 4 * m) (inside : m < 16)
        (at_m : channelRegister c m = some r) (plain : ∀ g, r ≠ .event g)
        (word : s.readRegister r = BitVec.ofNat 32 value) : holds k value :=
      State.shows_channel c offset inside at_m plain word
    refine ⟨field (m := 0) rfl (by decide) rfl nofun rfl, field (m := 1) rfl (by decide) rfl nofun (word_eq _),
      field (m := 2) rfl (by decide) rfl nofun (word_eq _), field (m := 3) rfl (by decide) rfl nofun (word_eq _),
      field (m := 4) rfl (by decide) rfl nofun (word_eq _), field (m := 5) rfl (by decide) rfl nofun ?_,
      field (m := 6) rfl (by decide) rfl nofun channel.configurationWord_eq,
      field (m := 7) rfl (by decide) rfl nofun (word_eq _), field (m := 8) rfl (by decide) rfl nofun (pack_low 28 _),
      field (m := 9) rfl (by decide) rfl nofun (pack_low 17 _), field (m := 10) rfl (by decide) rfl nofun (word_eq _),
      field (m := 11) rfl (by decide) rfl nofun (pack_low 28 _), field (m := 12) rfl (by decide) rfl nofun (pack_low 17 _)⟩
    refine channel.statusWord_eq.trans (congrArg (BitVec.ofNat 32) ?_)
    refine add_field (add_field (add_field (add_field (add_field (add_field (add_field rfl ?_) rfl) rfl) rfl) ?_) ?_) rfl
    · rcases channel.abortCause with _ | (_ | _ | _ | _) <;> rfl
    · rcases channel.resumeState with _ | (_ | _) <;> rfl
    · rcases channel.unit with _ | ⟨_ | _, _, _, _, _⟩ <;> rfl
  · intro u f
    refine ⟨fun i => ⟨?_, ?_⟩, register (n := 204) rfl (by decide) rfl nofun (word_eq _),
      register (n := 212) rfl (by decide) rfl nofun rfl, register (n := 216) rfl (by decide) rfl nofun u.controlWord_eq,
      register (n := 217) rfl (by decide) rfl nofun u.statusWord_eq, register (n := 220) rfl (by decide) rfl nofun ?_,
      by decide, register (n := 221) rfl (by decide) rfl nofun (word_eq _),
      register (n := 222) rfl (by decide) rfl nofun (word_eq _), register (n := 223) rfl (by decide) rfl nofun rfl⟩
    · exact register (n := 200 + i.val) (by omega) (by omega) (registerAt_enable i) nofun (word_eq _)
    · exact register (n := 208 + i.val) (by omega) (by omega) (registerAt_force i) nofun rfl
    · refine u.fault.statusWord_eq.trans (congrArg (BitVec.ofNat 32) ?_)
      refine add_field (add_field (add_field (add_field (add_field (add_field (add_field rfl ?_) rfl) rfl) rfl) rfl) rfl) rfl
      cases u.fault.fields.size <;> rfl

end Sys2Proof.Machine

/-! The system port's target side (05): accesses refused, accepted, captured and collected, and the finish of an accepted access. -/

namespace Sys2Proof.Machine

/-! ## An access as its row presents it -/

/-- The access that its row of the table carries: a read has no data. -/
def presented (a : Access) : Access :=
  match a.direction with
  | .write => a
  | .read => { a with data := 0 }

@[simp] theorem presented_direction (a : Access) : (presented a).direction = a.direction := by
  unfold presented
  split
  next write => rfl
  next read => rfl

@[simp] theorem presented_address (a : Access) : (presented a).address = a.address := by
  unfold presented
  split <;> rfl

@[simp] theorem presented_size (a : Access) : (presented a).size = a.size := by
  unfold presented
  split <;> rfl

theorem presented_write {a : Access} (write : a.direction = .write) : presented a = a := by
  unfold presented
  rw [write]

theorem exec_accessCommand (a : Access) (l : Lines) (s : State) :
    exec (accessCommand a l) s = .next (s.portAccess (presented a) l) := by
  unfold accessCommand presented
  obtain ⟨direction, address, size, data⟩ := a
  cases direction <;> rfl

/-! ## Decode -/

theorem aligned_iff (a : Access) : Access.aligned a = true ↔ a.address.toNat % a.size.bytes = 0 := beq_iff_eq

theorem Port.kindOf_window {p : Port} {a : Word} (inside : p.inWindow a = true) : p.kindOf a = .window := if_pos inside

theorem Port.kindOf_aperture {p : Port} {a : Word} (outside : ¬p.inWindow a = true) (enabled : p.enable = true)
    (inside : p.inAperture a = true) : p.kindOf a = .aperture := by
  rw [Port.kindOf, if_neg outside, if_pos (by rw [enabled, inside]; rfl)]

theorem Port.kindOf_unclaimed {p : Port} {a : Word} (outside : ¬p.inWindow a = true)
    (elsewhere : ¬p.inAperture a = true ∨ p.enable = false) : p.kindOf a = .unclaimed := by
  rw [Port.kindOf, if_neg outside, if_neg]
  intro both
  obtain ⟨enabled, inside⟩ := Bool.and_eq_true_iff.1 both
  obtain out | off := elsewhere
  · exact out inside
  · rw [off] at enabled
    cases enabled

theorem State.portAccess_unclaimed {s : State} {a : Access} (kind : s.port.kindOf a.address = .unclaimed) (l : Lines) :
    s.portAccess a l = s.answered (.error .unclaimed) := by
  unfold State.portAccess
  rw [kind]

theorem State.portAccess_misaligned_window {s : State} {a : Access} (kind : s.port.kindOf a.address = .window)
    (off : a.size ≠ .four ∨ a.address.toNat % 4 ≠ 0) (l : Lines) : s.portAccess a l = s.answered (.error .align) := by
  unfold State.portAccess
  rw [kind]
  refine if_neg fun both => ?_
  obtain ⟨four, aligned⟩ := Bool.and_eq_true_iff.1 both
  have four : a.size = .four := of_decide_eq_true four
  rw [aligned_iff, four] at aligned
  exact off.elim (fun other => other four) fun odd => odd aligned

theorem State.portAccess_misaligned {s : State} {a : Access} (kind : s.port.kindOf a.address = .aperture)
    (off : a.address.toNat % a.size.bytes ≠ 0) (l : Lines) : s.portAccess a l = s.answered (.error .align) := by
  unfold State.portAccess
  rw [kind]
  exact if_neg fun aligned => off ((aligned_iff a).1 aligned)

/-- Settles O32: the accesses that the decode refuses. -/
theorem accessesRefusedBeforeLookup : Obligations.AccessesRefusedBeforeLookup := by
  intro s a l start base inWindow inSpace
  have window : s.port.inWindow a.address = true ↔ inWindow := s.port.inWindow_iff a.address
  have space : s.port.inAperture a.address = true ↔ inSpace := s.port.inAperture_iff a.address
  rw [exec_accessCommand, exec_unclaimedAccess, exec_controlWindowMisaligned]
  refine ⟨fun outside elsewhere => ?_, fun inside off => ?_, fun outside inside enabled off => ?_⟩
  · have kind := Port.kindOf_unclaimed (p := s.port) (a := a.address) (by rwa [window]) (by rwa [space])
    rw [State.portAccess_unclaimed kind, State.portAccess_unclaimed (by simpa using kind)]
    exact ⟨rfl, rfl⟩
  · have kind := Port.kindOf_window (window.2 inside)
    rw [State.portAccess_misaligned_window kind off,
      State.portAccess_misaligned_window (a := presented a) (by simpa using kind) (by simpa using off)]
    exact ⟨rfl, rfl⟩
  · have kind := Port.kindOf_aperture (by rwa [window]) enabled (space.2 inside)
    rw [State.portAccess_misaligned (a := presented a) (by simpa using kind) (by simpa using off)]

/-! ## Lookup -/

/-- An access that goes to lookup and finds no entry (R96). -/
theorem State.portAccess_unmapped {s : State} {a : Access} (looks : s.looksUp a) (none_covers : s.coveringEntry a = none)
    (l : Lines) : s.portAccess a l = s.refuse (unmappedOffer a) .unmapped := by
  obtain ⟨kind, aligned⟩ := looks
  have none_found : s.covering (s.port.apertureOffset a.address / Config.granuleBytes) = none := none_covers
  unfold State.portAccess
  rw [kind]
  refine (if_pos ((aligned_iff a).2 aligned)).trans ?_
  unfold State.apertureAccess
  rw [none_found]

/-- An access that goes to lookup and finds its entry (R96). -/
theorem State.portAccess_covered {s : State} {a : Access} {h : Handle} (looks : s.looksUp a)
    (covers : s.coveringEntry a = some h) (l : Lines) : s.portAccess a l = s.coveredAccess a h l := by
  obtain ⟨kind, aligned⟩ := looks
  have found : s.covering (s.port.apertureOffset a.address / Config.granuleBytes) = some h := covers
  unfold State.portAccess
  rw [kind]
  refine (if_pos ((aligned_iff a).2 aligned)).trans ?_
  unfold State.apertureAccess
  rw [found]

theorem HeldRead.isMatch_iff (r : HeldRead) (a : Access) : r.isMatch a = true ↔ r.matchedBy a := by
  simp [HeldRead.isMatch, HeldRead.matchedBy, and_assoc]

theorem State.heldMatch_none {s : State} {a : Access} {h : Handle}
    (unmatched : ∀ r, (s.postingUnit (s.entry h).slot).holder = some r → ¬r.matchedBy a) : s.heldMatch a h = none := by
  unfold State.heldMatch
  split
  · rfl
  next r held => exact if_neg fun matched => unmatched r held ((r.isMatch_iff a).1 matched)

theorem State.heldMatch_some {s : State} {a : Access} {h : Handle} {r : HeldRead}
    (held : (s.postingUnit (s.entry h).slot).holder = some r) (matched : r.matchedBy a) : s.heldMatch a h = some r := by
  unfold State.heldMatch
  rw [held]
  exact if_pos ((r.isMatch_iff a).2 matched)

/-- What lookup reads of an access is the same in the access presented. -/
theorem State.looksUp_presented {s : State} {a : Access} (looks : s.looksUp a) : s.looksUp (presented a) := by
  simpa [State.looksUp] using looks

theorem State.coveringEntry_presented (s : State) (a : Access) : s.coveringEntry (presented a) = s.coveringEntry a := by
  simp [State.coveringEntry]

theorem HeldRead.matchedBy_presented (r : HeldRead) (a : Access) : r.matchedBy (presented a) ↔ r.matchedBy a := by
  simp [HeldRead.matchedBy]

theorem exec_access_unmapped {s : State} {a : Access} (looks : s.looksUp a) (none_covers : s.coveringEntry a = none)
    (l : Lines) : exec (accessCommand a l) s = .next (s.refuse (unmappedOffer a) .unmapped) := by
  have same : unmappedOffer (presented a) = unmappedOffer a := by simp [unmappedOffer]
  rw [exec_accessCommand, State.portAccess_unmapped (State.looksUp_presented looks)
    ((s.coveringEntry_presented a).trans none_covers), same]

theorem exec_access_covered {s : State} {a : Access} {h : Handle} (looks : s.looksUp a)
    (covers : s.coveringEntry a = some h) (l : Lines) :
    exec (accessCommand a l) s = .next (s.coveredAccess (presented a) h l) := by
  rw [exec_accessCommand, State.portAccess_covered (State.looksUp_presented looks)
    ((s.coveringEntry_presented a).trans covers)]

theorem entryOffer_presented (kind : AccessFaultKind) (a : Access) (h : Handle) (e : Entry) :
    entryOffer kind (presented a) h e = entryOffer kind a h e := by
  simp [entryOffer]

theorem State.heldMatch_presented_none {s : State} {a : Access} {h : Handle}
    (unmatched : ∀ r, (s.postingUnit (s.entry h).slot).holder = some r → ¬r.matchedBy a) :
    s.heldMatch (presented a) h = none :=
  State.heldMatch_none fun r held matched => unmatched r held ((r.matchedBy_presented a).1 matched)

/-- Settles O33: what lookup refuses is offered to the fault record. -/
theorem accessesRefusedAtLookupAreOffered : Obligations.AccessesRefusedAtLookupAreOffered := by
  intro s a l looks
  refine ⟨fun none_covers => exec_access_unmapped looks none_covers l, fun h covers unmatched => ?_⟩
  intro offer
  rw [exec_access_covered looks covers]
  unfold State.coveredAccess
  dsimp only
  rw [State.heldMatch_presented_none unmatched]
  dsimp only
  refine ⟨fun state => ?_, fun state => ?_, fun state => ?_⟩
  all_goals
    rw [state]
    dsimp only
    rw [entryOffer_presented]
    rfl

/-! ## Acceptance -/

/-- A sequencer that carries out an access chooses nothing (R126). -/
theorem State.choose_of_busy {s : State} {i : SlotId} (busy : (s.sequencer i).access ≠ none) (l : Lines) :
    s.choose i l = s := by
  obtain ⟨a, running⟩ := Option.ne_none_iff_exists'.1 busy
  exact s.choose_busy i l a running

/-- Which channel is due rests on the channels and the slots of the entries. -/
theorem State.dueChannel_congr {s t : State} (channels : t.channels = s.channels)
    (slots : ∀ h, (t.entry h).slot = (s.entry h).slot) (i : SlotId) : t.dueChannel i = s.dueChannel i := by
  have channel (c : ChannelId) : t.channel c = s.channel c := by
    rw [State.channel, channels]
    rfl
  unfold State.dueChannel
  congr 1
  funext c
  rw [channel, State.channelSlot_congr (congrArg Channel.bound (channel c)) fun h _ => slots h]

/-- The state after an acceptance through entry `h`, whose slot's posting unit is then `p` (R48, R57). -/
def State.accepted (s : State) (h : Handle) (p : PostingUnit) : State :=
  (s.setPosting (s.entry h).slot p).acceptThrough h

theorem State.entry_accepted (s : State) (h k : Handle) (p : PostingUnit) :
    (s.accepted h p).entry k =
      if k = h then { s.entry h with inFlight := (s.entry h).inFlight + 1, used := true } else s.entry k :=
  State.entry_setEntry _ h k _

theorem State.postingUnit_accepted (s : State) (h : Handle) (p : PostingUnit) :
    (s.accepted h p).postingUnit (s.entry h).slot = p := by
  change (s.setPosting (s.entry h).slot p).postingUnit (s.entry h).slot = p
  rw [State.postingUnit_setPosting, if_pos rfl]

theorem State.dueChannel_accepted (s : State) (h : Handle) (p : PostingUnit) (i : SlotId) :
    (s.accepted h p).dueChannel i = s.dueChannel i := by
  refine State.dueChannel_congr (t := s.accepted h p) (s := s) rfl (fun k => ?_) i
  rw [State.entry_accepted]
  split
  next same => rw [same]
  · rfl

/-- An acceptance and the choice after it: what they may change, and what they leave (R98, R99, R126). -/
theorem State.choose_accepted_spec (s : State) (h : Handle) (p : PostingUnit) (l : Lines) :
    (∃ posting sequencers channels, (s.accepted h p).choose (s.entry h).slot l =
      { s with
        table := (s.accepted h p).table, posting := posting, sequencers := sequencers, channels := channels }) ∧
    ∀ j, j ≠ (s.entry h).slot →
      ((s.accepted h p).choose (s.entry h).slot l).postingUnit j = s.postingUnit j ∧
      ((s.accepted h p).choose (s.entry h).slot l).sequencer j = s.sequencer j := by
  obtain ⟨posting, sequencers, channels, frame⟩ := (s.accepted h p).choose_frame (s.entry h).slot l
  refine ⟨⟨posting, sequencers, channels, frame⟩, fun j other => ?_⟩
  obtain ⟨unit, sequencer⟩ := (s.accepted h p).choose_other (s.entry h).slot j l other
  refine ⟨unit.trans ?_, sequencer⟩
  change (s.setPosting (s.entry h).slot p).postingUnit j = _
  rw [State.postingUnit_setPosting, if_neg other]

theorem State.choose_accepted_busy {s : State} {h : Handle} (busy : (s.sequencer (s.entry h).slot).access ≠ none)
    (p : PostingUnit) (l : Lines) : (s.accepted h p).choose (s.entry h).slot l = s.accepted h p :=
  State.choose_of_busy (s := s.accepted h p) busy l

theorem State.choose_accepted_idle {s : State} {h : Handle} {p : PostingUnit} {w : SystemWork}
    (idle : (s.sequencer (s.entry h).slot).access = none) (undue : s.dueChannel (s.entry h).slot = none)
    (offered : p.offered = some w) (l : Lines) :
    (s.accepted h p).choose (s.entry h).slot l = (s.accepted h p).beginSystem (s.entry h).slot w l := by
  rw [State.choose_system (s.accepted h p) (s.entry h).slot l idle (by rw [State.dueChannel_accepted]; exact undue),
    State.postingUnit_accepted, offered, Option.elim_some]

theorem State.acceptWrite_eq (s : State) (a : Access) (h : Handle) (l : Lines) :
    s.acceptWrite a h l =
      (((s.accepted h ((s.postingUnit (s.entry h).slot).append (s.itemOf a h (s.entry h)))).choose (s.entry h).slot
        l).settle).answered .ok := rfl

/-- A head write that begins (R129, R130). -/
theorem State.beginSystem_headWrite (s : State) (i : SlotId) (item : QueueItem) (l : Lines) :
    (s.beginSystem i (.headWrite item) l).postingUnit i = { s.postingUnit i with headInProgress := true } ∧
    (s.beginSystem i (.headWrite item) l).sequencer i =
      { access := some (s.begun i .headWrite .write item.target item.data l), preference := .channel, waitTimer := none,
        partialMark := false } := by
  unfold State.beginSystem
  simp [State.beginAccess_eq]

/-- A held read that begins (R116, R129, R130). -/
theorem State.beginSystem_heldRead (s : State) (i : SlotId) (r : HeldRead) (l : Lines) :
    (s.beginSystem i (.heldRead r) l).postingUnit i =
      { s.postingUnit i with holder := some { r with state := .issued } } ∧
    (s.beginSystem i (.heldRead r) l).sequencer i =
      { access := some (s.begun i .heldRead .read r.target 0 l), preference := .channel, waitTimer := none,
        partialMark := false } := by
  unfold State.beginSystem
  simp [State.beginAccess_eq]

/-- A write taken at the tail of the queue, with the sequencer's choice. -/
theorem exec_write_live {s : State} {a : Access} {h : Handle} (looks : s.looksUp a) (covers : s.coveringEntry a = some h)
    (write : a.direction = .write) (live : (s.entry h).state = .live) (l : Lines) :
    exec (accessCommand a l) s =
      .next
        (if (s.entry h).access = .readOnly then s.refuse (entryOffer .writeProtected a h (s.entry h)) .writeProtected
        else if 8 ≤ (s.postingUnit (s.entry h).slot).queue.length then s.answered .retry
        else s.acceptWrite a h l) := by
  rw [exec_access_covered looks covers, presented_write write]
  unfold State.coveredAccess
  dsimp only
  have unmatched : s.heldMatch a h = none := State.heldMatch_none fun r _ matched => by
    rw [matched.1] at write
    cases write
  rw [unmatched, live]
  dsimp only
  unfold State.liveAccess
  dsimp only
  rw [write]
  rfl

/-- The captured translation (R42, R101). -/
theorem State.translation_eq (s : State) (a : Access) (h : Handle) : s.translation a h (s.entry h) = s.captured a h := by
  have span : (s.entry h).space.bytes = if (s.entry h).space = .port then 65536 else 67108864 := by
    cases (s.entry h).space <;> rfl
  unfold State.translation State.captured Entry.translate
  rw [span]
  rfl

/-- The bytes of an accepted write, by the lanes of their addresses (05, 5.1). -/
theorem byteAt_bytesFromLanes (address : Word) (size : Size) (lanes : Word) {k : Nat} (inside : k < size.bytes) :
    byteAt (bytesFromLanes address size lanes) k = byteAt lanes ((address.toNat + k) % 4) := by
  have at_most : size.bytes ≤ 4 := by cases size <;> decide
  unfold bytesFromLanes
  rw [byteAt_wordOfBytes _ _ (by simpa using inside) (by simpa using at_most)]
  simp [laneOf]

/-- A unit that holds no waiting read, or a finished one, offers its head (R110). -/
theorem PostingUnit.offered_head {p : PostingUnit} {item : QueueItem} (queue : p.queue = [item])
    (finished : ∀ r, p.holder = some r → r.state = .failed ∨ ∃ data, r.state = .ready data) :
    p.offered = some (.headWrite item) := by
  have head : p.headWork = some (.headWrite item) := by
    unfold PostingUnit.headWork
    rw [queue]
  unfold PostingUnit.offered
  split
  · exact head
  next r held =>
    obtain failed | ⟨data, ready⟩ := finished r held
    · rw [failed]
      exact head
    · rw [ready]
      exact head

/-- Settles O34: a write through a LIVE entry is refused, retried, or taken and perhaps begun at once. -/
theorem writesThroughLiveEntries : Obligations.WritesThroughLiveEntries := by
  intro s a l h looks covers write live i p
  rw [exec_write_live looks covers write live]
  refine ⟨fun read_only => ?_, fun read_write full => ?_, fun read_write room => ?_⟩
  · rw [if_pos read_only]
    unfold State.refuse entryOffer
    rw [write]
  · rw [if_neg (by rw [read_write]; decide), if_pos full]
  · rw [if_neg (by rw [read_write]; decide), if_neg (Nat.not_le.2 room)]
    obtain ⟨⟨posting, sequencers, channels, frame⟩, others⟩ :=
      s.choose_accepted_spec h (p.append (s.itemOf a h (s.entry h))) l
    refine ⟨_, s.itemOf a h (s.entry h), rfl, rfl, ?_, fun k => ?_, others, s.translation_eq a h, rfl, fun k inside => ?_,
      ?_, fun busy => ?_, fun idle empty finished undue => ?_⟩
    · rw [State.acceptWrite_eq, frame]
      rfl
    · rw [State.acceptWrite_eq, frame]
      exact s.entry_accepted h k (p.append (s.itemOf a h (s.entry h)))
    · exact byteAt_bytesFromLanes a.address a.size a.data inside
    · refine ((s.accepted h (p.append (s.itemOf a h (s.entry h)))).choose_queue i l).trans ?_
      exact congrArg PostingUnit.queue (s.postingUnit_accepted h (p.append (s.itemOf a h (s.entry h))))
    · rw [State.acceptWrite_eq, State.choose_accepted_busy busy]
      exact ⟨s.postingUnit_accepted h (p.append (s.itemOf a h (s.entry h))), rfl, rfl⟩
    · have queue : p.queue ++ [s.itemOf a h (s.entry h)] = [s.itemOf a h (s.entry h)] := by rw [empty, List.nil_append]
      have offered : (p.append (s.itemOf a h (s.entry h))).offered = some (.headWrite (s.itemOf a h (s.entry h))) :=
        PostingUnit.offered_head queue finished
      rw [State.acceptWrite_eq, State.choose_accepted_idle idle undue offered]
      obtain ⟨unit, sequencer⟩ :=
        (s.accepted h (p.append (s.itemOf a h (s.entry h)))).beginSystem_headWrite i (s.itemOf a h (s.entry h)) l
      refine ⟨unit.trans ?_, rfl, sequencer⟩
      rw [s.postingUnit_accepted h (p.append (s.itemOf a h (s.entry h))), PostingUnit.append, queue]

/-! ## Reads -/

/-- The read that an EMPTY holder takes (R101, R115). -/
def State.readOf (s : State) (a : Access) (h : Handle) : HeldRead :=
  { target := s.captured a h, systemAddress := a.address
    state := .waiting (s.postingUnit (s.entry h).slot).queue.length }

/-- The posting unit with a read in its holder. -/
def PostingUnit.hold (p : PostingUnit) (r : HeldRead) : PostingUnit := { p with holder := some r }

theorem State.captureRead_eq (s : State) (a : Access) (h : Handle) (l : Lines) :
    s.captureRead (presented a) h l =
      (((s.accepted h ((s.postingUnit (s.entry h).slot).hold (s.readOf a h))).choose (s.entry h).slot
        l).settle).answered .retry := by
  have target : s.translation (presented a) h (s.entry h) = s.captured a h := by
    rw [State.translation_eq]
    simp [State.captured]
  unfold State.captureRead
  dsimp only
  rw [target, presented_address]
  rfl

/-- A read that matches no held read, by the holder (R99, R115). -/
theorem exec_read_live {s : State} {a : Access} {h : Handle} (looks : s.looksUp a) (covers : s.coveringEntry a = some h)
    (read : a.direction = .read) (live : (s.entry h).state = .live)
    (unmatched : ∀ r, (s.postingUnit (s.entry h).slot).holder = some r → ¬r.matchedBy a) (l : Lines) :
    exec (accessCommand a l) s =
      .next ((s.postingUnit (s.entry h).slot).holder.elim (s.captureRead (presented a) h l) fun _ => s.answered .retry) := by
  rw [exec_access_covered looks covers]
  unfold State.coveredAccess
  dsimp only
  rw [State.heldMatch_presented_none unmatched]
  dsimp only
  rw [live]
  dsimp only
  unfold State.liveAccess
  rw [presented_direction, read]
  dsimp only
  cases (s.postingUnit (s.entry h).slot).holder <;> rfl

/-- Settles O35: a read through a LIVE entry is captured by an EMPTY holder, and retried otherwise. -/
theorem readsThroughLiveEntries : Obligations.ReadsThroughLiveEntries := by
  intro s a l h looks covers read live i p
  refine ⟨fun r held unmatched => ?_, fun empty => ?_⟩
  · have held' : (s.postingUnit (s.entry h).slot).holder = some r := held
    rw [exec_read_live looks covers read live (fun r' other => Option.some.inj (held.symm.trans other) ▸ unmatched), held',
      Option.elim_some]
  · have empty' : (s.postingUnit (s.entry h).slot).holder = none := empty
    rw [exec_read_live looks covers read live (fun r held => by rw [empty'] at held; cases held), empty', Option.elim_none]
    obtain ⟨⟨posting, sequencers, channels, frame⟩, others⟩ := s.choose_accepted_spec h (p.hold (s.readOf a h)) l
    rw [State.captureRead_eq]
    refine ⟨_, rfl, rfl, ?_, fun k => ?_, others, fun busy => ?_, fun idle no_writes undue => ?_⟩
    · rw [frame]
      rfl
    · rw [frame]
      exact s.entry_accepted h k (p.hold (s.readOf a h))
    · rw [State.choose_accepted_busy busy]
      exact ⟨s.postingUnit_accepted h (p.hold (s.readOf a h)), rfl, rfl⟩
    · have waits : (s.readOf a h).state = .waiting 0 := by
        have no_writes : (s.postingUnit (s.entry h).slot).queue = [] := no_writes
        rw [State.readOf, no_writes, List.length_nil]
      have offered : (p.hold (s.readOf a h)).offered = some (.heldRead (s.readOf a h)) := by
        simp only [PostingUnit.offered, PostingUnit.hold, waits]
      rw [State.choose_accepted_idle idle undue offered]
      obtain ⟨unit, sequencer⟩ := (s.accepted h (p.hold (s.readOf a h))).beginSystem_heldRead i (s.readOf a h) l
      refine ⟨unit.trans ?_, rfl, sequencer⟩
      rw [s.postingUnit_accepted h (p.hold (s.readOf a h))]
      rfl

/-- Settles O36: a matching attempt retries until the held read is finished, and then collects it. -/
theorem matchingReadsCollectTheHeldRead : Obligations.MatchingReadsCollectTheHeldRead := by
  intro s a l h r looks covers held matched i emptied
  have answered : exec (accessCommand a l) s = .next (s.answerHeld (s.entry h).slot r) := by
    rw [exec_access_covered looks covers]
    unfold State.coveredAccess
    dsimp only
    rw [State.heldMatch_some held ((r.matchedBy_presented a).2 matched)]
  obtain ⟨_, address, size⟩ := matched
  rw [answered]
  unfold State.answerHeld
  refine ⟨fun n waits => ?_, fun issued => ?_, fun data ready => ?_, fun failed => ?_⟩
  · rw [waits]
  · rw [issued]
  · rw [ready, address, size]
    rfl
  · rw [failed]
    rfl

/-! ## The finish of an accepted access -/

/-- Bindings lost by one handle (R157). -/
theorem State.unbindWhere_handle (s : State) (h : Handle) :
    s.unbindWhere (fun k => k == h) =
      { s with channels := s.channels.map (fun c => if c.bound = some h then { c with bound := none } else c) } := by
  have channels : (s.unbindWhere (fun k => k == h)).channels =
      s.channels.map (fun c => if c.bound = some h then { c with bound := none } else c) := by
    unfold State.unbindWhere
    dsimp only
    congr 1
    funext c
    cases c.bound <;> simp
  rw [← channels]
  rfl

/-- Settles O37: the count falls by one, and a FENCED entry that reaches 0 is freed and retired. -/
theorem finishingWorkDrainsFencedEntries : Obligations.FinishingWorkDrainsFencedEntries := by
  intro s h
  refine ⟨fun stays => if_neg fun both => ?_, fun fenced last => ?_⟩
  · obtain ⟨fenced, zero⟩ := Bool.and_eq_true_iff.1 both
    have fenced : (s.entry h).state = .fenced := of_decide_eq_true fenced
    have zero : (s.entry h).inFlight - 1 = 0 := of_decide_eq_true zero
    obtain other | more := stays
    · exact other fenced
    · omega
  · have finished : s.finishOne h =
        (((s.setEntry h Entry.free).unbindWhere (fun k => k == h)).retireHandle h) := by
      refine (if_pos (by simp [fenced, last])).trans ?_
      exact if_pos fenced
    rw [finished, State.unbindWhere_handle]
    exact ⟨rfl, EventUnit.isSet_raise_self _ _ (by decide) (by decide)⟩

end Sys2Proof.Machine

/-! The sequencer: its choice, the cycles of a module access, and what the end of an access does to the work it served. -/

namespace Sys2Proof.Machine

/-! ## O38: the choice -/

theorem PostingUnit.headWork_eq (q : PostingUnit) : q.headWork = q.queue.head?.map .headWrite := by
  unfold PostingUnit.headWork
  cases q.queue <;> rfl

/-- What a posting unit presents, by its holder (R110). -/
theorem PostingUnit.offered_by_holder (q : PostingUnit) :
    (q.holder = none → q.offered = q.headWork) ∧
    ∀ r, q.holder = some r →
      (r.state = .waiting 0 → q.offered = some (.heldRead r)) ∧
      (∀ n, 0 < n → r.state = .waiting n → q.offered = q.headWork) ∧
      (r.state = .issued → q.offered = none) ∧
      (r.state = .failed ∨ (∃ data, r.state = .ready data) → q.offered = q.headWork) := by
  unfold PostingUnit.offered
  refine ⟨fun empty => by rw [empty], fun r held => ?_⟩
  rw [held]
  refine ⟨fun waiting => by simp only [waiting], fun n ahead waiting => ?_, fun issued => by simp only [issued], ?_⟩
  · obtain ⟨m, rfl⟩ := Nat.exists_eq_succ_of_ne_zero ahead.ne'
    simp only [waiting]
  · rintro (failed | ⟨data, ready⟩)
    · simp only [failed]
    · simp only [ready]

/-- A channel whose module half is due at slot `i` (R126, R128, R152). -/
def State.ReadyAt (s : State) (i : SlotId) (c : ChannelId) (u : UnitInProgress) : Prop :=
  ((s.channel c).state = .armed ∨ (s.channel c).state = .running) ∧ (s.channel c).unit = some u ∧
    u.half = .moduleHalf ∧ u.moduleBegun = false ∧ s.channelSlot c = some i

theorem State.readyAt_iff (s : State) (i : SlotId) (c : ChannelId) :
    (∃ u, s.ReadyAt i c u) ↔ (s.channel c).halfDue = true ∧ s.channelSlot c = some i := by
  rw [Channel.halfDue_iff]
  constructor
  · rintro ⟨u, state, unit, half, waits, slot⟩
    exact ⟨⟨u, state, unit, half, waits⟩, slot⟩
  · rintro ⟨⟨u, state, unit, half, waits⟩, slot⟩
    exact ⟨u, state, unit, half, waits, slot⟩

theorem State.dueChannel_of_not_ready {s : State} {i : SlotId} (undue : ∀ c u, ¬s.ReadyAt i c u) :
    s.dueChannel i = none :=
  s.dueChannel_none i fun c due slot =>
    have ⟨u, ready⟩ := (s.readyAt_iff i c).2 ⟨due, slot⟩
    undue c u ready

/-- The lowest channel that is ready is the one that is served (R128). -/
theorem State.dueChannel_of_ready {s : State} {i : SlotId} {c : ChannelId} {u : UnitInProgress} (ready : s.ReadyAt i c u)
    (lowest : ∀ d v, d < c → ¬s.ReadyAt i d v) : s.dueChannel i = some c := by
  obtain ⟨due, slot⟩ := (s.readyAt_iff i c).1 ⟨u, ready⟩
  refine s.dueChannel_some i c due slot fun d below due slot => ?_
  obtain ⟨v, ready⟩ := (s.readyAt_iff i d).2 ⟨due, slot⟩
  exact lowest d v below ready

/-- System work is begun when no channel waits, or when the preference is for it (R127). -/
theorem State.choose_work {s : State} {i : SlotId} {w : SystemWork} (free : (s.sequencer i).access = none)
    (offered : (s.postingUnit i).offered = some w)
    (preferred : (s.sequencer i).preference = .system ∨ ∀ c u, ¬s.ReadyAt i c u) (l : Lines) :
    s.choose i l = s.beginSystem i w l := by
  rcases preferred with preference | undue
  · unfold State.choose
    rw [free, offered, preference]
    cases s.dueChannel i <;> rfl
  · rw [s.choose_system i l free (State.dueChannel_of_not_ready undue), offered]
    rfl

/-- A module half is begun when no system work waits, or when the preference is for channels (R127). -/
theorem State.choose_half {s : State} {i : SlotId} {c : ChannelId} (free : (s.sequencer i).access = none)
    (due : s.dueChannel i = some c)
    (preferred : (s.sequencer i).preference = .channel ∨ (s.postingUnit i).offered = none) (l : Lines) :
    s.choose i l = s.beginHalf i c l := by
  unfold State.choose
  rw [free, due]
  rcases preferred with preference | nothing
  · rw [preference]
    cases (s.postingUnit i).offered <;> rfl
  · rw [nothing]

theorem ChannelDirection.moduleDirection_eq (d : ChannelDirection) :
    d.moduleDirection = if d = .toMemory then .read else .write := by
  cases d <;> rfl

/-- A module half that begins (R129). -/
theorem State.beginHalf_eq {s : State} {i : SlotId} {c : ChannelId} {u : UnitInProgress}
    (unit : (s.channel c).unit = some u) (l : Lines) :
    s.beginHalf i c l =
      (s.setChannel c { s.channel c with unit := some { u with moduleBegun := true } }).setSequencer i
        { access := some (s.begun i (.channelHalf c)
            (if (s.channel c).direction = .toMemory then .read else .write) u.target
            (if (s.channel c).direction = .toMemory then 0 else u.data.setWidth 32) l)
          preference := .system, waitTimer := none, partialMark := false } := by
  unfold State.beginHalf
  simp only [unit, State.beginAccess_eq, ChannelDirection.moduleDirection_eq]
  cases (s.channel c).direction <;> rfl

/-- Settles O38: the sequencer serves the source that waits, and by its preference when both wait. -/
theorem choiceServesTheWaitingSourceByPreference : Obligations.ChoiceServesTheWaitingSourceByPreference := by
  intro s i l
  refine ⟨fun q => ?_, fun busy => State.choose_of_busy busy l, fun free nothing undue => ?_, ?_, ?_, ?_⟩
  · have offered := q.offered_by_holder
    rw [q.headWork_eq] at offered
    cases head : q.queue with
    | nil => rw [head] at offered; exact offered
    | cons item rest => rw [head] at offered; exact offered
  · rw [s.choose_system i l free (State.dueChannel_of_not_ready undue), nothing]
    rfl
  · intro item free offered preferred
    rw [State.choose_work free offered preferred]
    rfl
  · intro r free offered preferred
    rw [State.choose_work free offered preferred]
    rfl
  · intro c u free ready lowest preferred
    rw [State.choose_half free (State.dueChannel_of_ready ready lowest) preferred]
    obtain ⟨-, unit, -⟩ := ready
    exact State.beginHalf_eq unit l

/-! ## O39: module cycles -/

theorem wordCycles_iff (g : Target) (widthSense : Bool) :
    wordCycles g widthSense = true ↔
      g.moduleAddress % 2 = 0 ∧ (g.width = .word ∨ (g.width = .sensed ∧ widthSense = true)) := by
  unfold wordCycles
  cases g.width <;> simp

theorem Space.bytes_eq (x : Space) : x.bytes = if x = .port then 65536 else 67108864 := by
  cases x <;> rfl

theorem cycleAt_eq (g : Target) (isWord : Bool) (k : Nat) :
    cycleAt g isWord k =
      { address := (g.moduleAddress + k) % (if g.space = .port then 65536 else 67108864), isWord := isWord,
        firstByte := k } := by
  rw [cycleAt, Space.bytes_eq]

/-- The cycle plan of an access, by its size and its width decision (R102). -/
theorem cyclePlan_eq (g : Target) (widthSense : Bool) :
    (g.size = .one → cyclePlan g widthSense = [cycleAt g false 0]) ∧
    (g.size = .two → wordCycles g widthSense = true → cyclePlan g widthSense = [cycleAt g true 0]) ∧
    (g.size = .two → ¬wordCycles g widthSense = true →
      cyclePlan g widthSense = [cycleAt g false 0, cycleAt g false 1]) ∧
    (g.size = .four → wordCycles g widthSense = true →
      cyclePlan g widthSense = [cycleAt g true 0, cycleAt g true 2]) ∧
    (g.size = .four → ¬wordCycles g widthSense = true →
      cyclePlan g widthSense = [cycleAt g false 0, cycleAt g false 1, cycleAt g false 2, cycleAt g false 3]) := by
  unfold cyclePlan
  refine ⟨fun size => ?_, fun size words => ?_, fun size bytes => ?_, fun size words => ?_, fun size bytes => ?_⟩
  · simp only [size]
  · simp only [size, words]
  · simp only [size, Bool.eq_false_of_not_eq_true bytes]
  · simp only [size, words]
  · simp only [size, Bool.eq_false_of_not_eq_true bytes]

/-- The two lanes of the data that a write cycle drives (R103, R131). -/
theorem writeLines_lanes (data : Word) (c : Cycle) :
    (writeLines data c).extractLsb' 0 8 = byteAt data c.firstByte ∧
    (writeLines data c).extractLsb' 8 8 = byteAt data (if c.isWord then c.firstByte + 1 else c.firstByte) := by
  have lanes (high low : Byte) : (high ++ low).extractLsb' 0 8 = low ∧ (high ++ low).extractLsb' 8 8 = high := by
    constructor
    · exact BitVec.extractLsb'_append_eq_right
    · exact BitVec.extractLsb'_append_eq_left
  unfold writeLines
  cases c.isWord
  · exact lanes _ _
  · exact lanes _ _

theorem AccessSource.isChannel_iff (source : AccessSource) : source.isChannel = true ↔ ∃ k, source = .channelHalf k := by
  cases source <;> simp [AccessSource.isChannel]

/-- The bytes of a read after a sample of a cycle (R103, R131). -/
theorem byteAt_sampleBytes (data : Word) (c : Cycle) (lines : BitVec 16) {k : Nat} (inside : k < 4) :
    byteAt (sampleBytes data c lines) k =
      if c.isWord then
        if k = c.firstByte + 1 then lines.extractLsb' 8 8
        else if k = c.firstByte then lines.extractLsb' 0 8 else byteAt data k
      else if k = c.firstByte then
        if c.address % 2 = 0 then lines.extractLsb' 0 8 else lines.extractLsb' 8 8
      else byteAt data k := by
  unfold sampleBytes
  cases c.isWord
  · by_cases even : c.address % 2 = 0
    · simp [even, byteAt_setByte _ _ _ _ inside, lowerLane]
    · simp [even, byteAt_setByte _ _ _ _ inside, upperLane]
  · simp [byteAt_setByte _ _ _ _ inside, lowerLane, upperLane]

theorem Sequencer.waitStarted_of_running {q : Sequencer} {t : Nat} (started : q.waitTimer = some t) (limit : Nat) :
    q.waitStarted limit = q.waitTimer := by
  rw [Sequencer.waitStarted, started]

section
variable {s : State} {i : SlotId} {a : BusAccess} (running : (s.sequencer i).access = some a)
include running

/-- A sample in strobe with wait asserted extends the phase and starts the wait timer (R132, R133). -/
theorem exec_waitSample_waiting (strobe : a.phase = .strobe) (lines : BitVec 16) :
    exec (.waitSample i true lines) s =
      .next (s.setSequencer i
        { s.sequencer i with
          access := some { a with periods := 1 }, waitTimer := (s.sequencer i).waitStarted a.waitLimit }) := by
  rw [exec_waitSample, Sequencer.sampled, running]
  simp only [strobe, if_true]

/-- A sample in strobe with wait deasserted begins the hold phase (R132, R133). -/
theorem exec_waitSample_taken (strobe : a.phase = .strobe) (lines : BitVec 16) :
    exec (.waitSample i false lines) s =
      .next (s.setSequencer i { s.sequencer i with access := some (a.strobeEnded lines), waitTimer := none }) := by
  rw [exec_waitSample, Sequencer.sampled, running]
  simp only [strobe]
  rfl

/-- In setup and in hold the wait line is not watched (R132). -/
theorem exec_waitSample_unwatched (outside : a.phase ≠ .strobe) (waiting : Bool) (lines : BitVec 16) :
    exec (.waitSample i waiting lines) s = .next s := by
  have unwatched : (s.sequencer i).sampled waiting lines = s.sequencer i := by
    unfold Sequencer.sampled
    rw [running]
    cases phase : a.phase with
    | setup => simp only [phase]
    | strobe => exact absurd phase outside
    | hold => simp only [phase]
  rw [exec_waitSample, unwatched, State.setSequencer_self]

/-- The end of a cycle that is not the last begins the next (R130, R133). -/
theorem exec_moduleCycleEnd_next (hold : a.phase = .hold) (more : a.index + 1 < a.plan.length) :
    exec (.moduleCycleEnd i) s =
      .next (s.setSequencer i { s.sequencer i with access := some a.nextCycle, partialMark := true }) := by
  rw [exec_moduleCycleEnd, Sequencer.cycleEnded, running]
  simp only [hold, more, decide_true, Bool.and_self, if_true]

end

/-- The bus lines in a cycle (R103, R130, R131, R139). -/
theorem Sequencer.lines_of_cycle {q : Sequencer} {a : BusAccess} {c : Cycle} (running : q.access = some a)
    (cycle : a.plan[a.index]? = some c) :
    q.lines =
      { address := BitVec.ofNat 26 c.address, space := some a.target.space
        lowerLane := c.isWord || c.address % 2 == 0
        upperLane := c.isWord || c.address % 2 == 1
        readStrobe := a.phase == .strobe && a.direction == .read
        writeStrobe := a.phase == .strobe && a.direction == .write
        data := if a.direction = .read then none else some (writeLines a.data c)
        acknowledge := a.source.isChannel } := by
  have at_index : a.cycle = some c := cycle
  unfold Sequencer.lines
  simp only [running, at_index]
  cases a.direction <;> rfl

/-- Settles O39: the plan of an access, its bus lines, its samples and the ends of its cycles. -/
theorem moduleCyclesSampleAndAdvance : Obligations.ModuleCyclesSampleAndAdvance := by
  refine ⟨fun g widthSense => ?_, fun q => ⟨fun idle => ?_, fun a c running cycle => ?_⟩, ?_⟩
  · have plan := cyclePlan_eq g widthSense
    simp only [wordCycles_iff, cycleAt_eq] at plan
    exact plan
  · unfold Sequencer.lines
    rw [idle]
    rfl
  · rw [Sequencer.lines_of_cycle running cycle]
    refine ⟨rfl, rfl, by simp, by simp, by simp, by simp, fun read => if_pos read, fun write => ?_, ?_⟩
    · exact ⟨_, by simp only [write]; rfl, writeLines_lanes a.data c⟩
    · exact a.source.isChannel_iff
  · intro s i a c lines running cycle
    have at_index : a.cycle = some c := cycle
    refine ⟨fun strobe stopped => ?_, fun t strobe started => ?_, fun strobe write => ?_, fun strobe read => ?_,
      fun outside waiting => exec_waitSample_unwatched running outside waiting lines, fun hold more => ?_⟩
    · rw [exec_waitSample_waiting running strobe, Sequencer.waitStarted, stopped]
    · rw [exec_waitSample_waiting running strobe, Sequencer.waitStarted_of_running started]
    · rw [exec_waitSample_taken running strobe, BusAccess.strobeEnded, write]
    · refine ⟨sampleBytes a.data c lines, ?_, fun k inside => byteAt_sampleBytes a.data c lines inside⟩
      rw [exec_waitSample_taken running strobe, BusAccess.strobeEnded, read, at_index]
    · exact exec_moduleCycleEnd_next running hold more

end Sys2Proof.Machine

/-! The ends of a module access: its completion, its timeout, and the expiry of a held read's collection timer. -/

namespace Sys2Proof.Machine

/-! ## Facts about units and memory accesses -/

theorem memoryIssueAddress_eq (size : UnitSize) (address : Word) :
    memoryIssueAddress size address = if size = .two then address &&& 0xFFFFFFFE else address := by
  cases size <;> rfl

theorem UnitSize.toSize_eq (size : UnitSize) : size.toSize = if size = .two then .two else .one := by
  cases size <;> rfl

theorem UnitSize.bytes_eq (size : UnitSize) : size.bytes = if size = .two then 2 else 1 := by
  cases size <;> rfl

theorem State.issueMemory_of_open {s : State} {m : MemoryAccess} (allowed : s.port.blocksMaster m.address = false)
    (c : ChannelId) : s.issueMemory c m = s.setMemory c (some m) := by
  rw [State.issueMemory, allowed]
  rfl

theorem State.issueMemory_of_blocked {s : State} {m : MemoryAccess} (blocked : s.port.blocksMaster m.address = true)
    (c : ChannelId) : s.issueMemory c m = s.abortChannel c .memoryError := by
  rw [State.issueMemory, blocked]
  rfl

/-! ## O40: completion -/

theorem State.completeWrite_of_head {s : State} {i : SlotId} {item : QueueItem} {rest : List QueueItem}
    (queue : (s.postingUnit i).queue = item :: rest) :
    s.completeWrite i = (s.setPosting i (s.postingUnit i).dropHead).finishOne item.target.handle := by
  rw [State.completeWrite, queue]

theorem PostingUnit.dropHead_of_head {p : PostingUnit} {item : QueueItem} {rest : List QueueItem}
    (queue : p.queue = item :: rest) :
    p.dropHead = { p with queue := rest, headInProgress := false, holder := p.holder.map HeldRead.headLeft } := by
  rw [PostingUnit.dropHead, queue]
  rfl

theorem State.finishRead_of_held {s : State} {i : SlotId} {r : HeldRead} (held : (s.postingUnit i).holder = some r)
    (outcome : HeldState) :
    s.finishRead i outcome =
      s.setPosting i
        { s.postingUnit i with
          holder := some { r with state := outcome }
          collectionTimer := some (1000000 * s.collectionLimit) } := by
  rw [State.finishRead, held]
  rfl

theorem State.halfDone_of_write {s : State} {c : ChannelId} {u : UnitInProgress} {a : BusAccess}
    (unit : (s.channel c).unit = some u) (write : a.direction = .write) (l : Lines) :
    s.halfDone c a l = s.endUnit c l := by
  unfold State.halfDone
  simp only [unit, write]

/-- The data of a module read goes to the memory half (R104, R152). -/
def State.handed (s : State) (c : ChannelId) (u : UnitInProgress) (a : BusAccess) : State :=
  s.setChannel c { s.channel c with unit := some { u with half := .memoryHalf, data := a.data.setWidth 16 } }

/-- The memory write of a module read's data (R104). -/
def Channel.memoryWrite (ch : Channel) (u : UnitInProgress) (a : BusAccess) : MemoryAccess :=
  { address := memoryIssueAddress ch.unitSize u.memoryAddress, size := ch.unitSize.toSize, direction := .write,
    data := a.data.setWidth 16, retries := 0 }

theorem State.halfDone_of_read {s : State} {c : ChannelId} {u : UnitInProgress} {a : BusAccess}
    (unit : (s.channel c).unit = some u) (read : a.direction = .read) (l : Lines) :
    s.halfDone c a l = (s.handed c u a).issueMemory c ((s.channel c).memoryWrite u a) := by
  unfold State.halfDone
  simp only [unit, read]
  rfl

/-- The end of the last cycle frees the sequencer, reports to the source and lets the sequencer choose (R126, R134). -/
theorem exec_accessCompletion_last {s : State} {i : SlotId} {a : BusAccess}
    (running : (s.sequencer i).access = some a) (hold : a.phase = .hold) (last : a.index + 1 = a.plan.length) (l : Lines) :
    exec (.accessCompletion i l) s = .next ((s.freeSequencer i).reportCompletion i a l |>.choose i l).settle := by
  have is_last : a.lastCycle = true := beq_iff_eq.2 last
  rw [exec_accessCompletion, State.accessCompletion, running]
  simp only [hold, is_last, decide_true, Bool.and_self, if_true]
  rfl

/-- Settles O40: the completion of an access, by its source. -/
theorem completionsReportToTheirSource : Obligations.CompletionsReportToTheirSource := by
  intro s i a l running hold last
  rw [exec_accessCompletion_last running hold last]
  refine ⟨fun item rest source queue => ?_, fun r source held => ?_, fun c u source unit write => ?_,
    fun c u source unit read => ?_⟩
  · have head : ((s.freeSequencer i).postingUnit i).queue = item :: rest := queue
    rw [State.reportCompletion, source]
    simp only
    rw [State.completeWrite_of_head head, PostingUnit.dropHead_of_head head]
    rfl
  · rw [State.reportCompletion, source]
    simp only
    rw [State.finishRead_of_held (s := s.freeSequencer i) held]
    rfl
  · rw [State.reportCompletion, source]
    simp only
    rw [State.halfDone_of_write (s := s.freeSequencer i) unit write]
    rfl
  · have handed : (s.freeSequencer i).reportCompletion i a l =
        ((s.freeSequencer i).handed c u a).issueMemory c ((s.channel c).memoryWrite u a) := by
      rw [State.reportCompletion, source]
      exact State.halfDone_of_read (s := s.freeSequencer i) unit read l
    rw [handed]
    intro address
    have at_address : ((s.channel c).memoryWrite u a).address = address := memoryIssueAddress_eq _ _
    refine ⟨fun allowed => ?_, fun blocked => ?_⟩
    · rw [State.issueMemory_of_open (s := (s.freeSequencer i).handed c u a) (at_address ▸ allowed), Channel.memoryWrite,
        memoryIssueAddress_eq, UnitSize.toSize_eq]
      rfl
    · rw [State.issueMemory_of_blocked (s := (s.freeSequencer i).handed c u a) (at_address ▸ blocked)]
      rfl

/-! ## O41: timers -/

theorem State.discardWrite_of_head {s : State} {i : SlotId} {item : QueueItem} {rest : List QueueItem}
    (queue : (s.postingUnit i).queue = item :: rest) :
    s.discardWrite i =
      ((s.setPosting i
        { (s.postingUnit i).dropHead with discarded := addDiscards (s.postingUnit i).discarded 1 }).raise
          (Flag.dataLost i)).finishOne item.target.handle := by
  rw [State.discardWrite, queue]

/-- The expiry of the wait timer offers the fault, frees the sequencer, reports to the source and lets the sequencer
choose (R126, R133). -/
theorem exec_waitTimeout_running {s : State} {i : SlotId} {a : BusAccess} {w : Nat}
    (running : (s.sequencer i).access = some a) (timer : (s.sequencer i).waitTimer = some w) (l : Lines) :
    exec (.waitTimeout i l) s =
      .next ((((s.offerAny (s.timeoutFault i a)).freeSequencer i).reportTimeout i a |>.choose i l).settle) := by
  rw [exec_waitTimeout, State.waitTimeout, running, timer]
  rfl

/-- Settles O41: the expiry of the wait timer by the source of the access, and of the collection timer. -/
theorem timersFailOrReleaseTheirAccess : Obligations.TimersFailOrReleaseTheirAccess := by
  intro s i l
  refine ⟨fun a w item rest running timer source queue => ?_, fun a w r running timer source held => ?_,
    fun a w c running timer source => ?_, fun r w held timer finished => ?_⟩
  · have fault : s.timeoutFault i a = some (s.timeoutOffer i .write item.target item.systemAddress) := by
      rw [State.timeoutFault, source]
      simp only [queue]
      rfl
    have head : (((s.offerAny (s.timeoutFault i a)).freeSequencer i).postingUnit i).queue = item :: rest := by
      rw [fault]
      exact queue
    rw [exec_waitTimeout_running running timer, State.reportTimeout, source]
    simp only
    rw [State.discardWrite_of_head head, PostingUnit.dropHead_of_head head, fault]
    rfl
  · have fault : s.timeoutFault i a = some (s.timeoutOffer i .read r.target r.systemAddress) := by
      rw [State.timeoutFault, source]
      simp only [held]
      rfl
    have holds : (((s.offerAny (s.timeoutFault i a)).freeSequencer i).postingUnit i).holder = some r := by
      rw [fault]
      exact held
    rw [exec_waitTimeout_running running timer, State.reportTimeout, source]
    simp only
    rw [State.finishRead_of_held holds, fault]
    rfl
  · have fault : s.timeoutFault i a = none := by rw [State.timeoutFault, source]
    rw [exec_waitTimeout_running running timer, State.reportTimeout, source, fault]
    rfl
  · have done : r.finished = true := by
      unfold HeldRead.finished
      rcases finished with failed | ⟨data, ready⟩
      · rw [failed]
      · rw [ready]
    rw [exec_collectionTimerExpiry, State.collectionExpiry, held, timer]
    simp only [done, if_true]
    rfl

end Sys2Proof.Machine

/-! Units of a channel: how they start, how they end, and when the next one is due. -/

namespace Sys2Proof.Machine

/-! ## O42: the start of a unit, and an abort -/

theorem Channel.unitTarget_eq (ch : Channel) (h : Handle) (e : Entry) :
    ch.unitTarget h e =
      { handle := h, space := e.space
        moduleAddress := (ch.currentDisplacement + e.moduleOffset) % (if e.space = .port then 65536 else 67108864)
        width := e.width, timingClass := e.timingClass, size := if ch.unitSize = .two then .two else .one } := by
  rw [Channel.unitTarget, Entry.translate, Space.bytes_eq, UnitSize.toSize_eq]

/-- A channel RUNNING with a new unit in the given half (R152). -/
def State.unitBegun (s : State) (c : ChannelId) (h : Handle) (half : Half) : State :=
  s.setChannel c
    { s.channel c with
      state := .running
      unit := some { half := half, target := (s.channel c).unitTarget h (s.entry h),
                     memoryAddress := (s.channel c).currentAddress, data := 0, moduleBegun := false } }

/-- The memory read of a channel's next unit (R104). -/
def Channel.memoryRead (ch : Channel) : MemoryAccess :=
  { address := memoryIssueAddress ch.unitSize ch.currentAddress, size := ch.unitSize.toSize, direction := .read,
    data := 0, retries := 0 }

theorem State.startUnit_toMemory {s : State} {c : ChannelId} {h : Handle} (bound : (s.channel c).bound = some h)
    (direction : (s.channel c).direction = .toMemory) : s.startUnit c = s.unitBegun c h .moduleHalf := by
  unfold State.startUnit
  simp only [bound, direction, State.unitBegun]

theorem State.startUnit_fromMemory {s : State} {c : ChannelId} {h : Handle} (bound : (s.channel c).bound = some h)
    (direction : (s.channel c).direction = .fromMemory) :
    s.startUnit c = (s.unitBegun c h .memoryHalf).issueMemory c (s.channel c).memoryRead := by
  unfold State.startUnit
  simp only [bound, direction, State.unitBegun, Channel.memoryRead]

theorem Flag.named_channelAbort (c : ChannelId) : (Flag.channelAbort c).Named := by
  revert c
  decide

/-- Settles O42: the start of a unit by its direction, the addresses the master side refuses, and an abort. -/
theorem unitsStartWithTheirTranslation : Obligations.UnitsStartWithTheirTranslation := by
  refine ⟨fun s c h bound => ?_, fun p address => ?_, fun s c cause => ⟨rfl, ?_⟩⟩
  · intro ch e target address started
    have begun (half : Half) : s.unitBegun c h half = started half := by
      rw [State.unitBegun, Channel.unitTarget_eq]
    have at_address : ch.memoryRead.address = address := memoryIssueAddress_eq _ _
    refine ⟨fun direction => ?_, fun direction allowed => ?_, fun direction blocked => ?_⟩
    · rw [State.startUnit_toMemory bound direction, begun]
    · rw [State.startUnit_fromMemory bound direction, begun,
        State.issueMemory_of_open (s := started .memoryHalf) (m := ch.memoryRead) (at_address ▸ allowed),
        Channel.memoryRead, memoryIssueAddress_eq, UnitSize.toSize_eq]
    · rw [State.startUnit_fromMemory bound direction, begun,
        State.issueMemory_of_blocked (s := started .memoryHalf) (m := ch.memoryRead) (at_address ▸ blocked)]
  · rw [Port.blocksMaster_iff, Port.inWindow_iff, Port.inAperture_iff]
  · have named := Flag.named_channelAbort c
    exact EventUnit.isSet_raise_self _ _ named.1 named.2

/-! ## When the next unit is due -/

theorem Channel.demandDue_iff (ch : Channel) (level : Bool) :
    ch.demandDue level = true ↔ ch.mode = .demand ∧ ch.mask = false ∧ level = true := by
  simp [Channel.demandDue, and_assoc]

section
variable {s : State} {c : ChannelId} {l : Lines}

theorem State.startIfDemanded_due (may : (s.channel c).mayStart = true)
    (due : (s.channel c).demandDue (s.requestLevel c l) = true) : s.startIfDemanded c l = s.startUnit c := by
  rw [State.startIfDemanded, may, due]
  rfl

theorem State.startIfDemanded_idle
    (idle : ¬((s.channel c).mayStart = true ∧ (s.channel c).demandDue (s.requestLevel c l) = true)) :
    s.startIfDemanded c l = s := by
  rw [State.startIfDemanded, if_neg]
  rwa [Bool.and_eq_true]

theorem State.startIfDue_stopped (stopped : ¬(s.channel c).mayStart = true) : s.startIfDue c l = s := if_neg stopped

theorem State.startIfDue_block (may : (s.channel c).mayStart = true) (block : (s.channel c).mode = .block) :
    s.startIfDue c l = if (s.channel c).state = .running then s.startUnit c else s := by
  unfold State.startIfDue
  simp only [may, block, if_true]

theorem State.startIfDue_unit (may : (s.channel c).mayStart = true) (unit : (s.channel c).mode = .unit) :
    s.startIfDue c l =
      if (s.channel c).unitDue then (s.setChannel c { s.channel c with unitDue := false }).startUnit c else s := by
  unfold State.startIfDue
  simp only [may, unit, if_true]

theorem State.startIfDue_demand (may : (s.channel c).mayStart = true) (demand : (s.channel c).mode = .demand) :
    s.startIfDue c l = s.startIfDemanded c l := by
  unfold State.startIfDue
  simp only [may, demand, if_true]

end

/-- Whether the mode of a channel that may start makes its next unit due, at the given level of its request line (R151,
R153). -/
def Channel.nextDue (ch : Channel) (level : Bool) : Prop :=
  (ch.mode = .block ∧ ch.state = .running) ∨ (ch.mode = .unit ∧ ch.unitDue = true) ∨
    (ch.mode = .demand ∧ ch.mask = false ∧ level = true)

theorem Channel.not_nextDue {ch : Channel} {level : Bool}
    (undue : (ch.mode = .block ∧ ch.state ≠ .running) ∨ (ch.mode = .unit ∧ ch.unitDue = false) ∨
      (ch.mode = .demand ∧ (ch.mask = true ∨ level = false))) : ¬ch.nextDue level := by
  unfold Channel.nextDue
  rcases undue with ⟨mode, waits⟩ | ⟨mode, undue⟩ | ⟨mode, masked | low⟩
  · simp [mode, waits]
  · simp [mode, undue]
  · simp [mode, masked]
  · simp [mode, low]

/-- A unit that is due starts; the mark of a UNIT channel that had one due is used up (R151, R153). -/
theorem State.startIfDue_due {s : State} {c : ChannelId} {l : Lines} (may : (s.channel c).mayStart = true) :
    ((s.channel c).mode ≠ .unit → (s.channel c).nextDue (s.requestLevel c l) → s.startIfDue c l = s.startUnit c) ∧
    ((s.channel c).mode = .unit → (s.channel c).unitDue = true →
      s.startIfDue c l = (s.setChannel c { s.channel c with unitDue := false }).startUnit c) := by
  refine ⟨fun other due => ?_, fun unit due => by rw [State.startIfDue_unit may unit, if_pos due]⟩
  rcases due with ⟨block, running⟩ | ⟨unit, -⟩ | ⟨demand, due⟩
  · rw [State.startIfDue_block may block, if_pos running]
  · exact absurd unit other
  · rw [State.startIfDue_demand may demand,
      State.startIfDemanded_due may ((Channel.demandDue_iff _ _).2 ⟨demand, due⟩)]

/-- With no unit due nothing starts. -/
theorem State.startIfDue_not_due {s : State} {c : ChannelId} {l : Lines}
    (undue : ¬(s.channel c).nextDue (s.requestLevel c l)) : s.startIfDue c l = s := by
  by_cases may : (s.channel c).mayStart = true
  · cases mode : (s.channel c).mode with
    | block =>
      rw [State.startIfDue_block may mode, if_neg]
      exact fun running => undue (.inl ⟨mode, running⟩)
    | unit =>
      rw [State.startIfDue_unit may mode, if_neg]
      exact fun due => undue (.inr (.inl ⟨mode, due⟩))
    | demand =>
      rw [State.startIfDue_demand may mode, State.startIfDemanded_idle]
      rintro ⟨-, due⟩
      exact undue (.inr (.inr ((Channel.demandDue_iff _ _).1 due)))
  · exact State.startIfDue_stopped may

/-! ## O43: the end of a unit -/

theorem Channel.steppedAddress_eq (ch : Channel) :
    ch.steppedAddress =
      if ch.memoryStep = .up then ch.currentAddress + BitVec.ofNat 32 (if ch.unitSize = .two then 2 else 1)
      else ch.currentAddress - BitVec.ofNat 32 (if ch.unitSize = .two then 2 else 1) := by
  rw [Channel.steppedAddress, UnitSize.bytes_eq]
  cases ch.memoryStep <;> rfl

theorem Channel.steppedDisplacement_eq (ch : Channel) (length : Nat) :
    ch.steppedDisplacement length =
      if ch.moduleStep = .fixed then ch.currentDisplacement
      else if ch.currentDisplacement + (if ch.unitSize = .two then 2 else 1) < length then
        ch.currentDisplacement + (if ch.unitSize = .two then 2 else 1)
      else ch.currentDisplacement + (if ch.unitSize = .two then 2 else 1) - length := by
  rw [Channel.steppedDisplacement, UnitSize.bytes_eq]
  cases ch.moduleStep <;> rfl

theorem State.boundLength_of_bound {s : State} {c : ChannelId} {h : Handle} (bound : (s.channel c).bound = some h) :
    s.boundLength c = 4096 * (s.entry h).granuleCount := by
  rw [State.boundLength, bound]
  rfl

theorem State.requestLevel_of_bound {s : State} {c : ChannelId} {h : Handle} (bound : (s.channel c).bound = some h)
    (l : Lines) : s.requestLevel c l = (l.get (s.entry h).slot).request := by
  rw [State.requestLevel, State.channelSlot, bound]
  rfl

theorem Channel.applyStop_none {ch : Channel} (stop : ch.stopPending = .none) : ch.applyStop = ch := by
  unfold Channel.applyStop
  rw [stop]
  cases ch.state <;> rfl

theorem Channel.applyStop_cancel {ch : Channel} (stop : ch.stopPending = .cancel)
    (active : ch.state = .armed ∨ ch.state = .running) : ch.applyStop = ch.cancelled := by
  unfold Channel.applyStop
  rcases active with state | state <;> rw [stop, state]

/-- The channel state that a resume state names (R147, R148). -/
def ResumeState.toState : ResumeState → ChannelState
  | .armed => .armed
  | .running => .running

theorem Channel.applyStop_pause {ch : Channel} {r : ResumeState} (stop : ch.stopPending = .pause)
    (state : ch.state = r.toState) : ch.applyStop = ch.pausedFrom r := by
  unfold Channel.applyStop
  cases r <;> rw [stop, state] <;> rfl

/-- What follows the steps of a unit that has ended, for a record `x` with no unit in progress that `put` puts in the
channel's place: a stop that is pending takes effect, or else the next unit starts when it is due (R153). -/
theorem State.afterStop_spec {put : Channel → State} {c : ChannelId} {l : Lines} {x : Channel} {r : ResumeState}
    {level : Bool} (reads : ∀ y, (put y).channel c = y) (writes : ∀ y z, (put y).setChannel c z = put z)
    (request : (put x).requestLevel c l = level) (state : x.state = r.toState) (no_unit : x.unit = none) :
    (x.stopPending = .pause → (put x.applyStop).startIfDue c l = put (x.pausedFrom r)) ∧
    (x.stopPending = .cancel → (put x.applyStop).startIfDue c l = put x.cancelled) ∧
    (x.stopPending = .none → x.mode ≠ .unit → x.nextDue level →
      (put x.applyStop).startIfDue c l = (put x).startUnit c) ∧
    (x.stopPending = .none → x.mode = .unit → x.unitDue = true →
      (put x.applyStop).startIfDue c l = (put { x with unitDue := false }).startUnit c) ∧
    (x.stopPending = .none → ¬x.nextDue level → (put x.applyStop).startIfDue c l = put x) := by
  have active : x.state = .armed ∨ x.state = .running := by
    rw [state]
    cases r
    · exact .inl rfl
    · exact .inr rfl
  have may (go : x.stopPending = .none) : ((put x).channel c).mayStart = true := by
    rw [reads, Channel.mayStart_iff]
    exact ⟨active, no_unit, go⟩
  refine ⟨fun stop => ?_, fun stop => ?_, fun go other due => ?_, fun go unit due => ?_, fun go undue => ?_⟩
  · rw [Channel.applyStop_pause stop state, State.startIfDue_stopped]
    rw [reads]
    exact Bool.false_ne_true
  · rw [Channel.applyStop_cancel stop active, State.startIfDue_stopped]
    rw [reads]
    exact Bool.false_ne_true
  · rw [Channel.applyStop_none go]
    exact (State.startIfDue_due (may go)).1 (by rwa [reads]) (by rwa [reads, request])
  · rw [Channel.applyStop_none go, (State.startIfDue_due (may go)).2 (by rwa [reads]) (by rwa [reads]), writes, reads]
  · rw [Channel.applyStop_none go, State.startIfDue_not_due]
    rwa [reads, request]

/-- Settles O43: the steps at the end of a unit, terminal count, a pending stop, and the next unit. -/
theorem unitsEndInOrder : Obligations.UnitsEndInOrder := by
  intro s c h l bound running ch size length level stepped reloaded done
  have steps : (s.channel c).stepped (s.boundLength c) = stepped := by
    rw [Channel.stepped, State.boundLength_of_bound bound, Channel.steppedAddress_eq, Channel.steppedDisplacement_eq]
  have ended : s.endUnit c l =
      if stepped.currentCount = 0 then (done stepped.terminal.applyStop).startIfDue c l
      else (s.setChannel c stepped.applyStop).startIfDue c l := by
    rw [← steps]
    rfl
  have request (t : State) (entries : t.table = s.table) (same : (t.channel c).bound = some h) :
      t.requestLevel c l = level := by
    rw [State.requestLevel_of_bound same, State.entry, entries]
    rfl
  have done_reads (y : Channel) : (done y).channel c = y := by simp [done]
  have put_reads (y : Channel) : (s.setChannel c y).channel c = y := by simp
  refine ⟨fun more => ?_, fun last once => ?_, fun last again => ?_⟩
  · have left : stepped.currentCount ≠ 0 := Nat.sub_ne_zero_of_lt more
    rw [ended, if_neg left]
    obtain ⟨pause, cancel, other, unit, rest⟩ :=
      State.afterStop_spec (put := s.setChannel c) (r := .running) (x := stepped) (l := l) put_reads
        (fun y z => s.setChannel_setChannel c y z)
        (request (s.setChannel c stepped) rfl (by rw [put_reads]; exact bound)) running rfl
    refine ⟨pause, cancel, fun go block => ?_, unit, fun go demand open_ asserted => ?_, fun go undue => ?_⟩
    · exact other go (fun mode => Mode.noConfusion (block.symm.trans mode)) (.inl ⟨block, running⟩)
    · exact other go (fun mode => Mode.noConfusion (demand.symm.trans mode)) (.inr (.inr ⟨demand, open_, asserted⟩))
    · exact rest go (Channel.not_nextDue (.inr undue))
  · have none_left : stepped.currentCount = 0 := by
      change ch.currentCount - 1 = 0
      rw [last]
    have terminal : stepped.terminal = { stepped with state := .done, stopPending := .none, unitDue := false } :=
      if_neg (by rw [show stepped.reload = false from once]; exact Bool.false_ne_true)
    rw [ended, if_pos none_left, terminal, Channel.applyStop_none rfl, State.startIfDue_stopped]
    rw [done_reads]
    exact Bool.false_ne_true
  · have none_left : stepped.currentCount = 0 := by
      change ch.currentCount - 1 = 0
      rw [last]
    have terminal : stepped.terminal = reloaded := if_pos again
    rw [ended, if_pos none_left, terminal]
    obtain ⟨pause, cancel, other, unit, rest⟩ :=
      State.afterStop_spec (put := done) (r := .armed) (x := reloaded) (l := l) done_reads
        (fun y z => congrArg (fun t : State => t.raise (Flag.channelDone c)) (s.setChannel_setChannel c y z))
        (request (done reloaded) rfl (by rw [done_reads]; exact bound)) rfl rfl
    refine ⟨pause, cancel, unit, fun go demand open_ asserted => ?_, fun go undue => ?_⟩
    · exact other go (fun mode => Mode.noConfusion (demand.symm.trans mode)) (.inr (.inr ⟨demand, open_, asserted⟩))
    · refine rest go (Channel.not_nextDue (undue.imp_left fun block => ⟨block, ?_⟩))
      exact fun running => ChannelState.noConfusion running

end Sys2Proof.Machine

/-! The requests of a channel: CONFIGURE, ARM, START, UNMASK, PAUSE, CANCEL and RESUME. -/

namespace Sys2Proof.Machine

/-! ## O44: CONFIGURE -/

theorem Mode.ofCode_code (m : Mode) : Mode.ofCode m.code = some m := by
  cases m <;> rfl

theorem controlMode_unused {w : Word} (unused : bits w 10 9 = 3) : controlMode w = none := by
  rw [controlMode, unused]
  rfl

theorem controlMode_of_code {w : Word} {m : Mode} (code : bits w 10 9 = m.code) : controlMode w = some m := by
  rw [controlMode, code, Mode.ofCode_code]

/-- A used code of the mode field names a mode (10.6). -/
theorem controlMode_used {w : Word} (used : bits w 10 9 ≠ 3) : ∃ m, controlMode w = some m := by
  have small : bits w 10 9 < 4 := bits_lt w 10 9
  unfold controlMode
  generalize bits w 10 9 = n at *
  interval_cases n
  · exact ⟨.unit, rfl⟩
  · exact ⟨.demand, rfl⟩
  · exact ⟨.block, rfl⟩
  · exact absurd rfl used

theorem controlBound_none {w : Word} (unbound : w.getLsbD 5 = false) : controlBound w = none := by
  rw [controlBound, unbound]
  rfl

theorem controlBound_some {w : Word} {h : Handle} (binds : w.getLsbD 5 = true) (names : bits w 4 0 = h.val) :
    controlBound w = some h := by
  have same : handleOf h.val = h := Fin.ext (handleOf_val h.isLt)
  rw [controlBound, binds, names, same]
  rfl

theorem Channel.isActive_eq_false {ch : Channel} (inactive : ¬(ch.state = .armed ∨ ch.state = .running ∨ ch.state = .paused)) :
    ch.isActive = false := by
  rwa [Bool.eq_false_iff, ne_eq, Channel.isActive_iff]

section
variable {s : State} {c : ChannelId}

theorem State.configure_badRequest (unused : controlMode (s.settings.get c).control = none) :
    s.configure c = s.channelResult c .badRequest := by
  unfold State.configure
  simp only [unused]

variable {m : Mode} (mode : controlMode (s.settings.get c).control = some m)
include mode

theorem State.configure_active (active : (s.channel c).isActive = true) :
    s.configure c = s.channelResult c .wrongState := by
  unfold State.configure
  simp only [mode, active, if_true]

theorem State.configure_unbound (inactive : (s.channel c).isActive = false)
    (unbound : controlBound (s.settings.get c).control = none) :
    s.configure c =
      s.setChannel c ((s.channel c).configured (s.settings.get c) none m (bits (s.settings.get c).displacement 27 0)) := by
  unfold State.configure
  simp only [mode, inactive, unbound, Bool.false_eq_true, if_false]

variable {h : Handle} (inactive : (s.channel c).isActive = false)
  (bound : controlBound (s.settings.get c).control = some h)
include inactive bound

theorem State.configure_notBound (free : (s.entry h).state = .free) : s.configure c = s.channelResult c .notBound := by
  unfold State.configure
  simp only [mode, inactive, bound, free, Bool.false_eq_true, if_false, if_true]

theorem State.configure_bound (in_use : (s.entry h).state ≠ .free) :
    s.configure c =
      s.setChannel c
        ((s.channel c).configured (s.settings.get c) (some h) m
          (bits (s.settings.get c).displacement 27 0 % (s.entry h).length)) := by
  unfold State.configure
  simp only [mode, inactive, bound, in_use, Bool.false_eq_true, if_false]

end

/-- Settles O44: CONFIGURE by its checks in order, and what it loads. -/
theorem configureLoadsTheSettingWords : Obligations.ConfigureLoadsTheSettingWords := by
  intro s c w ch active refused count loaded mode
  have mode_of (m : Mode) (code : mode m) : controlMode w.control = some m := by
    refine controlMode_of_code ?_
    cases m <;> exact code
  refine ⟨fun unused => ?_, fun used is_active => ?_, fun m inactive code unbound => ?_,
    fun h binds names inactive => ⟨fun used free => ?_, fun m code in_use => ?_⟩⟩
  · rw [exec_configure, State.configure_badRequest (controlMode_unused unused)]
    rfl
  · obtain ⟨m, some_mode⟩ := controlMode_used used
    rw [exec_configure, State.configure_active some_mode ((Channel.isActive_iff _).2 is_active)]
    rfl
  · rw [exec_configure, State.configure_unbound (mode_of m code) (Channel.isActive_eq_false inactive)
      (controlBound_none unbound)]
    rfl
  · obtain ⟨m, some_mode⟩ := controlMode_used used
    rw [exec_configure, State.configure_notBound some_mode (Channel.isActive_eq_false inactive)
      (controlBound_some binds names) free]
    rfl
  · rw [exec_configure, State.configure_bound (mode_of m code) (Channel.isActive_eq_false inactive)
      (controlBound_some binds names) in_use]
    rfl

/-! ## O45: ARM -/

theorem State.arm_refused {s : State} {c : ChannelId} (l : Lines) (refused : s.armDecision c ≠ .ok) :
    s.arm c l = s.channelResult c (s.armDecision c) := by
  unfold State.arm
  cases decision : s.armDecision c
  case ok => exact absurd decision refused
  all_goals rfl

theorem State.arm_ok {s : State} {c : ChannelId} (l : Lines) (ok : s.armDecision c = .ok) :
    s.arm c l =
      ((s.setChannel c { s.channel c with state := .armed, lastResult := .ok }).startIfDemanded c l).afterUnits c l := by
  rw [State.arm, ok]

theorem exec_arm_refused {s : State} {c : ChannelId} {l : Lines} {r : ChannelResult} (decision : s.armDecision c = r)
    (refuses : r ≠ .ok) :
    exec (.arm c l) s = .next ((s.setChannel c { s.channel c with lastResult := r }).answered .ok) := by
  rw [exec_arm, State.arm_refused l (decision ▸ refuses), decision]
  rfl

/-- The checks of ARM in order (R145). -/
theorem State.armDecision_spec (s : State) (c : ChannelId) :
    ((s.channel c).state ≠ .idle → s.armDecision c = .wrongState) ∧
    ((s.channel c).state = .idle → (∀ h, (s.channel c).bound = some h → (s.entry h).state ≠ .live) →
      s.armDecision c = .notLive) ∧
    ∀ h, (s.channel c).state = .idle → (s.channel c).bound = some h → (s.entry h).state = .live →
      s.armDecision c =
        if (s.channel c).direction = .fromMemory ∧ (s.entry h).access = .readOnly then .writeProtected
        else if (s.channel c).mode ≠ .block ∧ (s.slot (s.entry h).slot).identity.kind = some .memory then .wrongKind
        else .ok := by
  unfold State.armDecision
  refine ⟨fun busy => if_pos busy, fun idle not_live => ?_, fun h idle bound live => ?_⟩
  · cases bound : (s.channel c).bound with
    | none => simp [idle, bound]
    | some h => simp [idle, bound, not_live h bound]
  · simp only [idle, bound, live, ne_eq, not_true_eq_false, if_false, Bool.and_eq_true, decide_eq_true_eq]

/-- A channel just armed starts a unit when its mode and its line ask for one (R145, R151). -/
theorem State.startIfDemanded_spec {s : State} {c : ChannelId} {x : Channel} (l : Lines)
    (active : x.state = .armed ∨ x.state = .running) :
    (x.mode = .demand ∧ x.mask = false ∧ (s.setChannel c x).requestLevel c l = true ∧ x.stopPending = .none ∧
        x.unit = none → (s.setChannel c x).startIfDemanded c l = (s.setChannel c x).startUnit c) ∧
    (¬(x.mode = .demand ∧ x.mask = false ∧ (s.setChannel c x).requestLevel c l = true ∧ x.stopPending = .none ∧
        x.unit = none) → (s.setChannel c x).startIfDemanded c l = s.setChannel c x) := by
  have reads : (s.setChannel c x).channel c = x := by simp
  refine ⟨fun ⟨mode, mask, level, stop, unit⟩ => ?_, fun undemanded => ?_⟩
  · refine State.startIfDemanded_due ?_ ?_ <;> rw [reads]
    · exact x.mayStart_iff.2 ⟨active, unit, stop⟩
    · exact (x.demandDue_iff _).2 ⟨mode, mask, level⟩
  · refine State.startIfDemanded_idle ?_
    rw [reads, Channel.mayStart_iff, Channel.demandDue_iff]
    rintro ⟨⟨-, unit, stop⟩, mode, mask, level⟩
    exact undemanded ⟨mode, mask, level, stop, unit⟩

/-- Settles O45: ARM by its checks in order, and the unit that a DEMAND channel then starts. -/
theorem armChecksInOrder : Obligations.ArmChecksInOrder := by
  intro s c l ch refused armed
  obtain ⟨busy, unready, checks⟩ := s.armDecision_spec c
  refine ⟨fun state => exec_arm_refused (busy state) (by decide), fun idle not_live =>
    exec_arm_refused (unready idle not_live) (by decide), ?_⟩
  intro h idle bound live kind protects demands
  have decision := checks h idle bound live
  obtain ⟨starts, waits⟩ :=
    State.startIfDemanded_spec (s := s) (c := c) (x := { ch with state := .armed, lastResult := .ok }) l (.inl rfl)
  rw [State.requestLevel_of_bound (h := h) (by simpa using bound)] at starts waits
  refine ⟨fun protected_ => ?_, fun open_ mode memory => ?_, fun open_ fits undemanded => ?_,
    fun open_ fits demanded => ?_⟩
  · exact exec_arm_refused (decision.trans (if_pos protected_)) (by decide)
  · exact exec_arm_refused (decision.trans ((if_neg open_).trans (if_pos ⟨mode, memory⟩))) (by decide)
  · have ok : s.armDecision c = .ok :=
      decision.trans ((if_neg open_).trans (if_neg fun wrong => fits.elim wrong.1 fun other => other wrong.2))
    rw [exec_arm, State.arm_ok l ok, waits undemanded]
    rfl
  · have ok : s.armDecision c = .ok :=
      decision.trans ((if_neg open_).trans (if_neg fun wrong => fits wrong.2))
    rw [exec_arm, State.arm_ok l ok, starts demanded]
    rfl

/-! ## O46: START and UNMASK -/

/-- Settles O46: START begins a BLOCK pass from ARMED alone, and UNMASK clears the mask in every state. -/
theorem startBeginsThePassAndUnmaskClearsTheMask : Obligations.StartBeginsThePassAndUnmaskClearsTheMask := by
  intro s c l ch unmasked demands
  have request : unmasked.requestLevel c l = s.requestLevel c l := by
    simp [unmasked, ch, State.requestLevel, State.channelSlot]
  have reads : unmasked.channel c = { ch with mask := false, lastResult := .ok } := by simp [unmasked]
  have asks : demands ↔ (unmasked.channel c).mayStart = true ∧
      (unmasked.channel c).demandDue (unmasked.requestLevel c l) = true := by
    rw [reads, request, Channel.mayStart_iff, Channel.demandDue_iff]
    simp only [demands]
    tauto
  refine ⟨fun state mode => ?_, fun other => ?_, fun undemanded => ?_, fun demanded => ?_⟩
  · have begins : s.startRequest c l =
        ((s.setChannel c { ch with state := .running, lastResult := .ok }).startUnit c).afterUnits c l := by
      refine if_pos ?_
      rw [Bool.and_eq_true, decide_eq_true_eq, decide_eq_true_eq]
      exact ⟨state, mode⟩
    rw [exec_start, begins]
    rfl
  · have refused : s.startRequest c l = s.channelResult c .wrongState := by
      refine if_neg ?_
      rw [Bool.and_eq_true, decide_eq_true_eq, decide_eq_true_eq]
      exact fun both => other.elim (fun state => state both.1) fun mode => mode both.2
    rw [exec_start, refused]
    rfl
  · have waits : unmasked.startIfDemanded c l = unmasked := State.startIfDemanded_idle fun both => undemanded (asks.2 both)
    rw [exec_unmask, State.unmask, waits]
    rfl
  · have starts : unmasked.startIfDemanded c l = unmasked.startUnit c :=
      State.startIfDemanded_due (asks.1 demanded).1 (asks.1 demanded).2
    rw [exec_unmask, State.unmask, starts]
    rfl

/-! ## O47: PAUSE, CANCEL and RESUME -/

theorem Channel.pauseLater_eq (ch : Channel) :
    ch.pauseLater = { ch with stopPending := if ch.stopPending = .cancel then .cancel else .pause } := by
  rcases ch with ⟨⟩
  unfold Channel.pauseLater
  dsimp only
  split <;> rfl

section
variable {s : State} {c : ChannelId}

theorem State.pause_refused
    (stopped : (s.channel c).state = .idle ∨ (s.channel c).state = .done ∨ (s.channel c).state = .aborted ∨
      (s.channel c).state = .paused) : s.pause c = s.channelResult c .wrongState := by
  unfold State.pause
  rcases stopped with state | state | state | state <;> simp only [state]

theorem State.pause_armed (armed : (s.channel c).state = .armed) :
    s.pause c = s.setChannel c { (s.channel c).pausedFrom .armed with lastResult := .ok } := by
  unfold State.pause
  simp only [armed]

theorem State.pause_idle_unit (running : (s.channel c).state = .running) (no_unit : (s.channel c).unit = none) :
    s.pause c = s.setChannel c { (s.channel c).pausedFrom .running with lastResult := .ok } := by
  unfold State.pause
  simp only [running, no_unit]

theorem State.pause_later (running : (s.channel c).state = .running) (unit : (s.channel c).unit ≠ none) :
    s.pause c = s.setChannel c { (s.channel c).pauseLater with lastResult := .ok } := by
  obtain ⟨u, unit⟩ := Option.ne_none_iff_exists'.1 unit
  unfold State.pause
  simp only [running, unit]

theorem State.cancel_refused
    (stopped : (s.channel c).state = .idle ∨ (s.channel c).state = .done ∨ (s.channel c).state = .aborted) :
    s.cancel c = s.channelResult c .wrongState := by
  unfold State.cancel
  rcases stopped with state | state | state <;> simp only [state]

theorem State.cancel_now
    (free : (s.channel c).state = .armed ∨ (s.channel c).state = .paused ∨
      ((s.channel c).state = .running ∧ (s.channel c).unit = none)) :
    s.cancel c = s.setChannel c { (s.channel c).cancelled with lastResult := .ok } := by
  unfold State.cancel
  rcases free with state | state | ⟨state, unit⟩
  · simp only [state]
  · simp only [state]
  · simp only [state, unit]

theorem State.cancel_later (running : (s.channel c).state = .running) (unit : (s.channel c).unit ≠ none) :
    s.cancel c = s.setChannel c { s.channel c with stopPending := .cancel, lastResult := .ok } := by
  obtain ⟨u, unit⟩ := Option.ne_none_iff_exists'.1 unit
  unfold State.cancel
  simp only [running, unit]

end

/-- A channel that a RESUME has put back into the state it held (R148). -/
def Channel.resumed (ch : Channel) (r : ResumeState) : Channel :=
  { ch with state := r.toState, resumeState := none, lastResult := .ok }

theorem exec_resume_paused {s : State} {c : ChannelId} {r : ResumeState} (paused : (s.channel c).state = .paused)
    (resume : (s.channel c).resumeState = some r) (l : Lines) :
    exec (.resume c l) s =
      .next ((((((s.setChannel c ((s.channel c).resumed r)).startIfDue c l).chooseFor c l).settle)).answered .ok) := by
  have state : resumedState (s.channel c).resumeState = r.toState := by
    rw [resume]
    cases r <;> rfl
  rw [exec_resume, State.resume]
  rw [if_pos paused, state]
  rfl

/-- Settles O47: PAUSE, CANCEL and RESUME by the state they find. -/
theorem pauseCancelAndResumeByState : Obligations.PauseCancelAndResumeByState := by
  intro s c l ch put stopped
  refine ⟨fun state => ?_, fun armed => ?_, fun running no_unit => ?_, fun running unit => ?_, fun state => ?_,
    fun free => ?_, fun running unit => ?_, fun other => ?_, fun r paused no_unit no_stop resume => ?_⟩
  · have refused := State.pause_refused (s := s) (c := c) (by simp only [stopped] at state; tauto)
    rw [exec_pause, refused]
    rfl
  · rw [exec_pause, State.pause_armed armed]
    rfl
  · rw [exec_pause, State.pause_idle_unit running no_unit]
    rfl
  · rw [exec_pause, State.pause_later running unit, Channel.pauseLater_eq]
  · rw [exec_cancel, State.cancel_refused state]
    rfl
  · rw [exec_cancel, State.cancel_now free]
    rfl
  · rw [exec_cancel, State.cancel_later running unit]
  · rw [exec_resume, State.resume, if_neg other]
    rfl
  · intro back ended
    have back_eq : (s.channel c).resumed r = back := by cases r <;> rfl
    have same_level : (s.setChannel c ((s.channel c).resumed r)).requestLevel c l = s.requestLevel c l := by
      simp [Channel.resumed, State.requestLevel, State.channelSlot]
    obtain ⟨-, -, other, unit, rest⟩ :=
      State.afterStop_spec (put := s.setChannel c) (c := c) (x := (s.channel c).resumed r) (r := r) (l := l)
        (fun y => by simp) (fun y z => s.setChannel_setChannel c y z) same_level rfl no_unit
    rw [Channel.applyStop_none (ch := (s.channel c).resumed r) no_stop] at other unit rest
    rw [exec_resume_paused paused resume]
    refine ⟨fun block running => ?_, fun mode due => ?_, fun demand open_ level => ?_, fun undue => ?_⟩
    · rw [other no_stop (fun mode => Mode.noConfusion (block.symm.trans mode)) (.inl ⟨block, running ▸ rfl⟩), back_eq]
    · rw [unit no_stop mode due, back_eq]
    · rw [other no_stop (fun mode => Mode.noConfusion (demand.symm.trans mode)) (.inr (.inr ⟨demand, open_, level⟩)),
        back_eq]
    · have waits : ¬((s.channel c).resumed r).nextDue (s.requestLevel c l) :=
        Channel.not_nextDue (undue.imp_left fun block => ⟨block.1, by rw [block.2]; exact ChannelState.noConfusion⟩)
      rw [rest no_stop waits, back_eq]

end Sys2Proof.Machine

/-! What channels take from outside: an assertion of their slot's request line, and the interconnect's answers. -/

namespace Sys2Proof.Machine

/-! ## O48: an assertion of a request line -/

/-- A channel that an assertion of slot `i`'s line reaches: of the slot, unmasked, and ARMED or RUNNING (R151). -/
def State.Takes (s : State) (i : SlotId) (c : ChannelId) : Prop :=
  s.channelSlot c = some i ∧ (s.channel c).mask = false ∧ ((s.channel c).state = .armed ∨ (s.channel c).state = .running)

/-- A channel whose unit an assertion of slot `i`'s line starts (R151). -/
def State.StartsAt (s : State) (i : SlotId) (c : ChannelId) : Prop :=
  s.Takes i c ∧ ((s.channel c).unit = none ∧ (s.channel c).stopPending = .none) ∧
    ((s.channel c).mode ≠ .block ∨ (s.channel c).state = .armed)

/-- A channel whose unit fails as it starts: its memory read lies in the part's own windows (R104). -/
def State.FailsAt (s : State) (i : SlotId) (c : ChannelId) : Prop :=
  s.StartsAt i c ∧ (s.channel c).direction = .fromMemory ∧
    s.port.blocksMaster (memoryIssueAddress (s.channel c).unitSize (s.channel c).currentAddress) = true

/-- A channel with a unit in progress or a stop pending starts none (R151). -/
def Channel.Held (ch : Channel) : Prop := ch.unit ≠ none ∨ ch.stopPending ≠ .none

section
variable {s : State} {i : SlotId} {c : ChannelId}

theorem State.Takes.offerAssertion (takes : s.Takes i c) :
    s.offerAssertion i c =
      if (s.channel c).mode = .unit then
        if (s.channel c).mayStart then s.startUnit c else s.setChannel c { s.channel c with unitDue := true }
      else if (s.channel c).mode = .demand then if (s.channel c).mayStart then s.startUnit c else s
      else if (s.channel c).mayStart = true ∧ (s.channel c).state = .armed then s.startUnit c else s := by
  obtain ⟨slot, mask, active⟩ := takes
  have reached : (!(s.channel c).mask && ((s.channel c).state = .armed || (s.channel c).state = .running)) = true := by
    simpa [mask] using active
  unfold State.offerAssertion State.takeAssertion
  rw [if_pos slot]
  cases mode : (s.channel c).mode <;> simp [reached, mode]

theorem State.offerAssertion_untaken (untaken : ¬s.Takes i c) : s.offerAssertion i c = s := by
  unfold State.offerAssertion State.takeAssertion
  split
  next slot =>
    refine if_neg fun reached => untaken ⟨slot, ?_⟩
    simpa using reached
  next => rfl

theorem Channel.not_mayStart_of_held {ch : Channel} (held : ch.Held) : ¬ch.mayStart = true := fun may =>
  have ⟨_, unit, stop⟩ := ch.mayStart_iff.1 may
  held.elim (absurd unit) (absurd stop)

theorem State.StartsAt.offerAssertion (starts : s.StartsAt i c) : s.offerAssertion i c = s.startUnit c := by
  obtain ⟨takes, idle, passes⟩ := starts
  have may : (s.channel c).mayStart = true := (s.channel c).mayStart_iff.2 ⟨takes.2.2, idle⟩
  rw [takes.offerAssertion]
  cases mode : (s.channel c).mode
  case block => simpa [mode, may] using fun waits => absurd (passes.resolve_left fun other => other mode) waits
  all_goals simp [may]

/-- A UNIT channel that cannot start one keeps the assertion as a unit due (R151). -/
theorem State.offerAssertion_marks (takes : s.Takes i c) (mode : (s.channel c).mode = .unit) (held : (s.channel c).Held) :
    s.offerAssertion i c = s.setChannel c { s.channel c with unitDue := true } := by
  rw [takes.offerAssertion, if_pos mode, if_neg (Channel.not_mayStart_of_held held)]

theorem State.offerAssertion_demand (takes : s.Takes i c) (mode : (s.channel c).mode = .demand)
    (held : (s.channel c).Held) : s.offerAssertion i c = s := by
  rw [takes.offerAssertion, if_neg (by rw [mode]; decide), if_pos mode, if_neg (Channel.not_mayStart_of_held held)]

theorem State.offerAssertion_block (takes : s.Takes i c) (mode : (s.channel c).mode = .block)
    (waits : (s.channel c).Held ∨ (s.channel c).state = .running) : s.offerAssertion i c = s := by
  rw [takes.offerAssertion, if_neg (by rw [mode]; decide), if_neg (by rw [mode]; decide), if_neg]
  rintro ⟨may, armed⟩
  rcases waits with held | running
  · exact Channel.not_mayStart_of_held held may
  · exact ChannelState.noConfusion (armed.symm.trans running)

/-- An offered assertion starts a unit, or else raises nothing. -/
theorem State.offerAssertion_events_of_not_starts (stays : ¬s.StartsAt i c) : (s.offerAssertion i c).events = s.events := by
  by_cases takes : s.Takes i c
  · by_cases held : (s.channel c).Held
    · cases mode : (s.channel c).mode with
      | unit => rw [State.offerAssertion_marks takes mode held]; rfl
      | demand => rw [State.offerAssertion_demand takes mode held]
      | block => rw [State.offerAssertion_block takes mode (.inl held)]
    · have idle : (s.channel c).unit = none ∧ (s.channel c).stopPending = .none := by
        simpa [Channel.Held] using held
      have waits : ¬((s.channel c).mode ≠ .block ∨ (s.channel c).state = .armed) := fun passes => stays ⟨takes, idle, passes⟩
      obtain ⟨mode, other⟩ := not_or.1 waits
      rw [State.offerAssertion_block takes (not_not.1 mode) (.inr (takes.2.2.resolve_left other))]
  · rw [State.offerAssertion_untaken takes]

/-- An offered assertion raises CHANNEL_ABORT of a channel whose unit fails as it starts, and nothing else (R104, R154). -/
theorem State.offerAssertion_events :
    (s.FailsAt i c ∧ (s.offerAssertion i c).events = s.events.raise (Flag.channelAbort c)) ∨
    (¬s.FailsAt i c ∧ (s.offerAssertion i c).events = s.events) := by
  by_cases starts : s.StartsAt i c
  · obtain ⟨h, bound, -⟩ := Option.map_eq_some_iff.1 starts.1.1
    rw [starts.offerAssertion]
    cases direction : (s.channel c).direction with
    | toMemory =>
      rw [State.startUnit_toMemory bound direction]
      exact .inr ⟨fun fails => ChannelDirection.noConfusion (direction.symm.trans fails.2.1), rfl⟩
    | fromMemory =>
      rw [State.startUnit_fromMemory bound direction]
      cases blocked : s.port.blocksMaster (s.channel c).memoryRead.address with
      | true =>
        rw [State.issueMemory_of_blocked (s := s.unitBegun c h .memoryHalf) blocked]
        exact .inl ⟨⟨starts, direction, blocked⟩, rfl⟩
      | false =>
        rw [State.issueMemory_of_open (s := s.unitBegun c h .memoryHalf) blocked]
        exact .inr ⟨fun fails => Bool.noConfusion (blocked.symm.trans fails.2.2), rfl⟩
  · exact .inr ⟨fun fails => starts fails.1, State.offerAssertion_events_of_not_starts starts⟩

end

/-- Two states that agree on a channel, its memory access, the table and the port. -/
structure State.AgreesAt (s t : State) (c : ChannelId) : Prop where
  channel : t.channel c = s.channel c
  memory : t.memoryRecord c = s.memoryRecord c
  table : t.table = s.table
  port : t.port = s.port

theorem State.Touches.agreesAt {s t : State} {d c : ChannelId} (touches : s.Touches t d) (other : c ≠ d) :
    s.AgreesAt t c := by
  obtain ⟨channel, memory⟩ := touches.others c other
  exact ⟨channel, memory, by rw [touches.frame], by rw [touches.frame]⟩

section
variable {s t : State} {c : ChannelId} (agrees : s.AgreesAt t c)
include agrees

theorem State.AgreesAt.channelSlot : t.channelSlot c = s.channelSlot c := by
  unfold State.channelSlot State.entry
  rw [agrees.channel, agrees.table]

theorem State.AgreesAt.failsAt (i : SlotId) : t.FailsAt i c ↔ s.FailsAt i c := by
  unfold State.FailsAt State.StartsAt State.Takes
  rw [agrees.channelSlot, agrees.channel, agrees.port]

/-- What an assertion does to a channel depends on the channel, the table and the port alone. -/
theorem State.AgreesAt.offerAssertion (i : SlotId) :
    (t.offerAssertion i c).channel c = (s.offerAssertion i c).channel c ∧
    (t.offerAssertion i c).memoryRecord c = (s.offerAssertion i c).memoryRecord c := by
  have starts := t.startUnit_congr s c agrees.channel agrees.table agrees.port agrees.memory
  unfold State.offerAssertion State.takeAssertion
  rw [agrees.channelSlot, agrees.channel]
  dsimp only
  split
  · split
    · split
      · split
        · exact starts
        · exact ⟨by simp, agrees.memory⟩
      · split
        · exact starts
        · exact ⟨agrees.channel, agrees.memory⟩
      · split
        · exact starts
        · exact ⟨agrees.channel, agrees.memory⟩
    · exact ⟨agrees.channel, agrees.memory⟩
  · exact ⟨agrees.channel, agrees.memory⟩

end

/-- The channels to which an assertion was offered took it as they stood, and the others were left (R151). -/
theorem State.foldl_offerAssertion_at (i : SlotId) (c : ChannelId) (L : List ChannelId) (distinct : L.Nodup) (s : State) :
    (c ∈ L →
      (L.foldl (fun t d => t.offerAssertion i d) s).channel c = (s.offerAssertion i c).channel c ∧
      (L.foldl (fun t d => t.offerAssertion i d) s).memoryRecord c = (s.offerAssertion i c).memoryRecord c) ∧
    (c ∉ L →
      (L.foldl (fun t d => t.offerAssertion i d) s).channel c = s.channel c ∧
      (L.foldl (fun t d => t.offerAssertion i d) s).memoryRecord c = s.memoryRecord c) := by
  induction L generalizing s with
  | nil => exact ⟨fun member => absurd member List.not_mem_nil, fun _ => ⟨rfl, rfl⟩⟩
  | cons d rest ih =>
    obtain ⟨fresh, distinct⟩ := List.nodup_cons.1 distinct
    obtain ⟨inside, outside⟩ := ih distinct (s.offerAssertion i d)
    rw [List.foldl_cons]
    by_cases same : c = d
    · subst same
      exact ⟨fun _ => outside fresh, fun absent => absurd List.mem_cons_self absent⟩
    · have touches := s.touches_offerAssertion i d
      refine ⟨fun member => ?_, fun absent => ?_⟩
      · obtain ⟨channel, memory⟩ := inside (List.mem_of_ne_of_mem same member)
        obtain ⟨channel', memory'⟩ := (touches.agreesAt same).offerAssertion i
        exact ⟨channel.trans channel', memory.trans memory'⟩
      · obtain ⟨channel, memory⟩ := outside (List.not_mem_of_not_mem_cons absent)
        obtain ⟨channel', memory'⟩ := touches.others c same
        exact ⟨channel.trans channel', memory.trans memory'⟩

/-- An assertion raises CHANNEL_ABORT of exactly the channels whose unit fails as it starts. -/
theorem State.foldl_offerAssertion_raised (i : SlotId) {u : EventUnit} (L : List ChannelId) (distinct : L.Nodup) (s : State)
    {new : Flag → Prop} (raised : u.Raised s.events new) :
    u.Raised (L.foldl (fun t d => t.offerAssertion i d) s).events
      (fun f => new f ∨ ∃ c ∈ L, s.FailsAt i c ∧ f = Flag.channelAbort c) := by
  induction L generalizing s new with
  | nil => exact raised.congr fun f => by simp
  | cons d rest ih =>
    obtain ⟨fresh, distinct⟩ := List.nodup_cons.1 distinct
    have first : u.Raised (s.offerAssertion i d).events (fun f => new f ∨ (s.FailsAt i d ∧ f = Flag.channelAbort d)) := by
      rcases State.offerAssertion_events (s := s) (i := i) (c := d) with ⟨fails, events⟩ | ⟨holds, events⟩
      · rw [events]
        exact raised.raise _ (Flag.named_channelAbort d) fun f => by simp [fails]
      · rw [events]
        exact raised.congr fun f => by simp [holds]
    rw [List.foldl_cons]
    refine (ih distinct (s.offerAssertion i d) first).congr fun f => ?_
    have later (c : ChannelId) (member : c ∈ rest) : (s.offerAssertion i d).FailsAt i c ↔ s.FailsAt i c :=
      ((s.touches_offerAssertion i d).agreesAt (ne_of_mem_of_not_mem member fresh)).failsAt i
    have rest_fails : (∃ c ∈ rest, (s.offerAssertion i d).FailsAt i c ∧ f = Flag.channelAbort c) ↔
        ∃ c ∈ rest, s.FailsAt i c ∧ f = Flag.channelAbort c :=
      exists_congr fun c => and_congr_right fun member => and_congr_left fun _ => later c member
    simp only [rest_fails, List.mem_cons, or_and_right, exists_or, exists_eq_left, or_assoc]

/-- Settles O48: the slot's channels take the assertion by their modes, and only a unit that fails at issue raises. -/
theorem assertionsAreTakenByTheSlotsChannels : Obligations.AssertionsAreTakenByTheSlotsChannels := by
  intro s i l
  have all (c : ChannelId) : c ∈ fourIds := by revert c; decide
  refine ⟨fourIds.foldl (fun t c => t.offerAssertion i c) s, rfl, ?_, ?_, fun c => ?_⟩
  · obtain ⟨⟨channels, memory, events, frame⟩, -⟩ := State.foldl_offerAssertion fourIds s i
    rw [frame]
  · have raised := State.foldl_offerAssertion_raised i fourIds (by decide) s
      (EventUnit.Raised.refl s.events (fun _ => False) fun _ => id)
    refine raised.congr fun f => ?_
    simp only [State.FailsAt, State.StartsAt, State.Takes, memoryIssueAddress_eq, all, true_and, false_or, and_assoc]
    exact exists_congr fun c => by tauto
  · obtain ⟨channel, memory⟩ := (State.foldl_offerAssertion_at i c fourIds (by decide) s).1 (all c)
    rw [channel, memory]
    refine ⟨fun untaken => ?_, fun takes mode held => ?_, fun takes mode held => ?_, fun takes mode waits => ?_,
      fun takes free passes => ?_⟩
    · rw [State.offerAssertion_untaken untaken]
      exact ⟨rfl, rfl⟩
    · rw [State.offerAssertion_marks takes mode held]
      exact ⟨by simp, rfl⟩
    · rw [State.offerAssertion_demand takes mode held]
      exact ⟨rfl, rfl⟩
    · rw [State.offerAssertion_block takes mode waits]
      exact ⟨rfl, rfl⟩
    · have starts : s.StartsAt i c := ⟨takes, by simpa using free, passes⟩
      rw [starts.offerAssertion]
      exact ⟨rfl, rfl⟩

/-! ## O49: the interconnect's answers -/

theorem readData_eq (size : Size) (data : BitVec 16) : readData size data = if size = .one then data &&& 0x00FF else data := by
  cases size <;> rfl

theorem State.memoryAnswer_dropped {s : State} {c : ChannelId} (none_held : s.memoryRecord c = none) (a : MemoryAnswer)
    (l : Lines) : s.memoryAnswer c a l = s := by
  rw [State.memoryAnswer, none_held]

section
variable {s : State} {c : ChannelId} {m : MemoryAccess} (held : s.memoryRecord c = some m) (l : Lines)
include held

theorem State.memoryAnswer_retry :
    s.memoryAnswer c .retry l =
      if m.retries < 256 then (s.issueMemory c { m with retries := m.retries + 1 }).settle
      else (s.abortChannel c .memoryBusy).settle := by
  rw [State.memoryAnswer, held]
  rfl

theorem State.memoryAnswer_error : s.memoryAnswer c .error l = (s.abortChannel c .memoryError).settle := by
  rw [State.memoryAnswer, held]

theorem State.memoryAnswer_ok (data : BitVec 16) :
    s.memoryAnswer c (.ok data) l = (s.memoryDone c m data l).afterUnits c l := by
  rw [State.memoryAnswer, held]

end

theorem State.memoryDone_read {s : State} {c : ChannelId} {m : MemoryAccess} {u : UnitInProgress}
    (unit : (s.channel c).unit = some u) (read : m.direction = .read) (data : BitVec 16) (l : Lines) :
    s.memoryDone c m data l =
      (s.setMemory c none).setChannel c
        { s.channel c with unit := some { u with half := .moduleHalf, data := readData m.size data } } := by
  unfold State.memoryDone
  simp only [unit, read]

theorem State.memoryDone_write {s : State} {c : ChannelId} {m : MemoryAccess} {u : UnitInProgress}
    (unit : (s.channel c).unit = some u) (write : m.direction = .write) (data : BitVec 16) (l : Lines) :
    s.memoryDone c m data l = (s.setMemory c none).endUnit c l := by
  unfold State.memoryDone
  simp only [unit, write]

/-- Settles O49: an answer ends the half, repeats it or aborts the channel; one that finds no access is dropped. -/
theorem memoryAnswersEndOrRepeatTheHalf : Obligations.MemoryAnswersEndOrRepeatTheHalf := by
  intro s c l
  refine ⟨fun a none_held => by rw [exec_memoryAnswer, State.memoryAnswer_dropped none_held], fun m held => ?_⟩
  refine ⟨fun few allowed => ?_, fun few blocked => ?_, fun many => ?_, ?_, fun u data unit read => ?_,
    fun u data unit write => ?_⟩
  · rw [exec_memoryAnswer, State.memoryAnswer_retry held, if_pos few,
      State.issueMemory_of_open (m := { m with retries := m.retries + 1 }) allowed]
  · rw [exec_memoryAnswer, State.memoryAnswer_retry held, if_pos few,
      State.issueMemory_of_blocked (m := { m with retries := m.retries + 1 }) blocked]
  · rw [exec_memoryAnswer, State.memoryAnswer_retry held, if_neg (Nat.not_lt.2 many)]
  · rw [exec_memoryAnswer, State.memoryAnswer_error held]
  · rw [exec_memoryAnswer, State.memoryAnswer_ok held, State.memoryDone_read unit read, readData_eq]
    rfl
  · rw [exec_memoryAnswer, State.memoryAnswer_ok held, State.memoryDone_write unit write]
    rfl

end Sys2Proof.Machine

/-! The event unit: its words, its control word and output, the fault record; and the laws at reset. -/

namespace Sys2Proof.Machine

/-! ## O50: the event, enable and force words -/

theorem Flag.slot_flags (i : Fin 4) :
    [Flag.presence i, Flag.identified i, Flag.sessionUp i, Flag.sessionDown i, Flag.fault i, Flag.badSupply i,
      Flag.alert i, Flag.change i, Flag.dataLost i, Flag.readDiscarded i] =
      (List.range 10).map (fun p => { group := .slot i, position := p }) := rfl

theorem Flag.system_flags (i : Fin 4) :
    [Flag.commandDone, Flag.retired, Flag.accessFault, Flag.channelDone i, Flag.channelAbort i] =
      [0, 1, 2, 8 + i.val, 12 + i.val].map (fun p => { group := .system, position := p }) := rfl

/-- The ten positions of a slot's event word are flags (10.7). -/
theorem Flag.named_slot (i : SlotId) {p : Nat} (inside : p < 10) : Flag.Named ⟨.slot i, p⟩ := by
  have positions : ∀ p < 10, (0x3FF : Word).getLsbD p = true := by decide
  exact ⟨lt_trans inside (by decide), positions p inside⟩

/-- The eleven positions of the system event word are flags (10.7). -/
theorem Flag.named_system {p : Nat} (inside : p < 3 ∨ (8 ≤ p ∧ p < 16)) : Flag.Named ⟨.system, p⟩ := by
  have positions : ∀ p < 16, p < 3 ∨ 8 ≤ p → (0xFF07 : Word).getLsbD p = true := by decide
  have below : p < 16 := by omega
  exact ⟨lt_trans below (by decide), positions p below (by omega)⟩

theorem State.raise_of_named (s : State) {f : Flag} (named : f.Named) :
    s.raise f =
      s.setEvents
        { s.events with
          flags := s.events.flags.set f.group (s.events.flags.get f.group ||| BitVec.twoPow 32 f.position)
          pulsesOwed :=
            if s.events.interruptMode = .pulse ∧ (s.events.flags.get f.group).getLsbD f.position = false ∧
                (s.events.enables.get f.group).getLsbD f.position = true then
              min 255 (s.events.pulsesOwed + 1)
            else s.events.pulsesOwed } :=
  congrArg s.setEvents (s.events.raise_eq f named)

/-- The mark that a clear leaves: an ALERT flag whose source is asserted (R160). -/
def EventUnit.Keeps (u : EventUnit) (g : EventGroup) (p : Nat) : Prop := p = 6 ∧ ∃ i, g = .slot i ∧ u.alertSources.get i = true

theorem EventUnit.clearable_iff (u : EventUnit) (g : EventGroup) (marks : Word) {p : Nat} (inside : p < 32) :
    (u.clearable g marks).getLsbD p = true ↔ marks.getLsbD p = true ∧ ¬u.Keeps g p := by
  unfold EventUnit.clearable EventUnit.Keeps
  cases g with
  | system => simp
  | slot i =>
    cases asserted : u.alertSources.get i with
    | false => simp [asserted]
    | true =>
      simp [asserted, positionMark, Flag.alert, inside]

/-- The flags that stay set after a clear (R160, R165). -/
theorem EventUnit.cleared_iff (u : EventUnit) (g : EventGroup) (marks : Word) {p : Nat} (inside : p < 32) :
    (u.flags.get g &&& ~~~u.clearable g marks).getLsbD p = true ↔
      (u.flags.get g).getLsbD p = true ∧ (marks.getLsbD p = false ∨ u.Keeps g p) := by
  rw [BitVec.getLsbD_and, BitVec.getLsbD_not, Bool.and_eq_true, Bool.and_eq_true, Bool.not_eq_true',
    Bool.eq_false_iff, ne_eq, u.clearable_iff g marks inside, not_and, not_not, ← Bool.not_eq_true, imp_iff_not_or]
  simp [inside]

theorem ones_newly (new old other : Word) :
    ones (new &&& ~~~old &&& other) =
      (List.range 32).countP (fun p => new.getLsbD p && !old.getLsbD p && other.getLsbD p) := by
  unfold ones
  refine List.countP_congr fun p member => ?_
  have inside : p < 32 := List.mem_range.1 member
  simp [inside]

theorem ones_raised (old marks enables : Word) :
    ones ((old ||| marks) &&& ~~~old &&& enables) =
      (List.range 32).countP (fun p => marks.getLsbD p && !old.getLsbD p && enables.getLsbD p) := by
  rw [ones_newly]
  refine List.countP_congr fun p _ => ?_
  rw [BitVec.getLsbD_or]
  cases old.getLsbD p <;> simp

/-- Pulses owed after `n` flags are newly set and enabled, by the interrupt mode (R168). -/
def EventUnit.owing (u : EventUnit) (n : Nat) : Nat := if u.interruptMode = .level then u.pulsesOwed else owe u.pulsesOwed n

section
variable (u : EventUnit) (g : EventGroup) (v : Word)

theorem EventUnit.readWord_readClears (mode : u.clearMode = .readClears) :
    u.readWord g = (u.clearMarks g (u.flags.get g)).settle := by
  rw [EventUnit.readWord, mode]

theorem EventUnit.readWord_writeOneClears (mode : u.clearMode = .writeOneClears) : u.readWord g = u := by
  rw [EventUnit.readWord, mode]

theorem EventUnit.writeWord_readClears (mode : u.clearMode = .readClears) : u.writeWord g v = u := by
  rw [EventUnit.writeWord, mode]

theorem EventUnit.writeWord_writeOneClears (mode : u.clearMode = .writeOneClears) :
    u.writeWord g v = (u.clearMarks g v).settle := by
  rw [EventUnit.writeWord, mode]

theorem EventUnit.writeEnables_eq :
    u.writeEnables g v =
      { u with
        enables := u.enables.set g (v &&& flagPositions g)
        pulsesOwed := u.owing ((List.range 32).countP (fun p =>
          (v &&& flagPositions g).getLsbD p && !(u.enables.get g).getLsbD p && (u.flags.get g).getLsbD p))
        : EventUnit }.settle := by
  rw [← ones_newly, EventUnit.writeEnables, EventUnit.owing]
  cases u.interruptMode <;> rfl

theorem EventUnit.force_eq :
    u.force g v =
      { u with
        flags := u.flags.set g (u.flags.get g ||| (v &&& flagPositions g))
        pulsesOwed := u.owing ((List.range 32).countP (fun p =>
          (v &&& flagPositions g).getLsbD p && !(u.flags.get g).getLsbD p && (u.enables.get g).getLsbD p))
        : EventUnit }.settle := by
  rw [← ones_raised, EventUnit.force, EventUnit.raiseMarks, EventUnit.owing]
  cases u.interruptMode <;> rfl

end

/-- Settles O50: the flags' positions, raises, and the reads and writes of the event, enable and force words. -/
theorem eventEnableAndForceWords : Obligations.EventEnableAndForceWords := by
  refine ⟨fun i => ⟨Flag.slot_flags i, Flag.system_flags i⟩, fun s f named => ?_, fun s g v => ?_⟩
  · refine s.raise_of_named ?_
    obtain ⟨group, position⟩ := f
    cases group with
    | slot i => exact Flag.named_slot i named
    | system => exact Flag.named_system named
  · intro u old held word marks owed
    have marks_eq : v &&& flagPositions g = marks := by cases g <;> rfl
    have owed_eq (n : Nat) : u.owing n = owed n := by
      simp only [EventUnit.owing, owed, owe]
      cases u.interruptMode <;> rfl
    refine ⟨fun mode => ⟨?_, old &&& ~~~u.clearable g old, fun p inside => ?_, ?_⟩,
      fun mode => ⟨?_, old &&& ~~~u.clearable g v, fun p inside => u.cleared_iff g v inside, ?_⟩, ?_, ?_⟩
    · rw [exec_eventWordWrite, State.writeEventWord, EventUnit.writeWord_readClears _ g v mode]
      rfl
    · rw [u.cleared_iff g old inside]
      refine and_congr_right fun set_ => ?_
      rw [show old.getLsbD p = true from set_]
      exact or_iff_right Bool.noConfusion
    · rw [exec_eventWordRead, State.readEventWord, EventUnit.readWord_readClears _ g mode]
      rfl
    · rw [exec_eventWordRead, State.readEventWord, EventUnit.readWord_writeOneClears _ g mode]
      rfl
    · rw [exec_eventWordWrite, State.writeEventWord, EventUnit.writeWord_writeOneClears _ g v mode]
      rfl
    · rw [exec_enableWordWrite, State.writeEnableWord, EventUnit.writeEnables_eq, marks_eq, owed_eq]
      rfl
    · rw [exec_forceWordWrite, State.writeForceWord, EventUnit.force_eq, marks_eq, owed_eq]
      rfl

/-! ## O51: the control word and the output -/

theorem EventUnit.settle_level {u : EventUnit} (level : u.interruptMode = .level) :
    u.settle = { u with output := u.anyEnabled } := by
  rw [EventUnit.settle, level]

theorem EventUnit.settle_pulse_idle {u : EventUnit} (pulse : u.interruptMode = .pulse) (idle : u.pulsePhase = .idle) :
    u.settle =
      if u.pulsesOwed = 0 then { u with output := false }
      else { u with output := true, pulsesOwed := u.pulsesOwed - 1, pulsePhase := .inPulse 200 } := by
  rw [EventUnit.settle, pulse, idle]
  rfl

theorem interruptModeOf_pulse {v : Word} (pulse : v.getLsbD 1 = true) : interruptModeOf v = .pulse := if_pos pulse

theorem interruptModeOf_level {v : Word} (level : v.getLsbD 1 = false) : interruptModeOf v = .level :=
  if_neg (by rw [level]; exact Bool.false_ne_true)

/-- A write of the control word that keeps the interrupt mode changes the clear mode alone (R166). -/
theorem EventUnit.writeControl_same {u : EventUnit} {v : Word} (same : u.interruptMode = interruptModeOf v) :
    u.writeControl v = { u with clearMode := clearModeOf v } := by
  rw [EventUnit.writeControl, ← same]
  cases u.interruptMode <;> rfl

theorem EventUnit.writeControl_toPulse {u : EventUnit} {v : Word} (level : u.interruptMode = .level)
    (pulse : interruptModeOf v = .pulse) :
    u.writeControl v =
      { u with clearMode := clearModeOf v, interruptMode := .pulse, output := false, pulsesOwed := 0, pulsePhase := .idle } := by
  rw [EventUnit.writeControl, level, pulse]

theorem EventUnit.writeControl_toLevel {u : EventUnit} {v : Word} (pulse : u.interruptMode = .pulse)
    (level : interruptModeOf v = .level) :
    u.writeControl v =
      { u with
        clearMode := clearModeOf v, interruptMode := .level, output := u.anyEnabled, pulsesOwed := 0,
        pulsePhase := .idle } := by
  rw [EventUnit.writeControl, pulse, level]

theorem EventUnit.endPulse_inPulse {u : EventUnit} {n : Nat} (phase : u.pulsePhase = .inPulse n) :
    u.endPulse = { u with output := false, pulsePhase := .inGap 200 } := by
  rw [EventUnit.endPulse, phase]
  rfl

theorem EventUnit.endGap_inGap {u : EventUnit} {n : Nat} (phase : u.pulsePhase = .inGap n)
    (pulse : u.interruptMode = .pulse) :
    u.endGap =
      if u.pulsesOwed = 0 then { u with output := false, pulsePhase := .idle }
      else { u with output := true, pulsesOwed := u.pulsesOwed - 1, pulsePhase := .inPulse 200 } := by
  rw [EventUnit.endGap, phase]
  exact EventUnit.settle_pulse_idle (u := { u with pulsePhase := .idle }) pulse rfl

/-- Settles O51: the control word, the output at the end of an event, and the ends of a pulse and of its gap. -/
theorem eventControlAndInterruptPulses : Obligations.EventControlAndInterruptPulses := by
  intro s v u clear asserted enabled
  have asserted_eq : u.anyEnabled = asserted := Bool.eq_iff_iff.2 (u.anyEnabled_iff.trans enabled.symm)
  refine ⟨fun level pulse => ?_, fun pulse level => ?_, fun same => ?_, fun level => ?_, fun pulse idle owed => ?_,
    fun pulse idle none_owed => ?_, fun n phase => ?_, fun n phase pulse => ⟨fun owed => ?_, fun none_owed => ?_⟩⟩
  · rw [exec_eventControlWrite, State.writeEventControl,
      EventUnit.writeControl_toPulse (u := s.events) level (interruptModeOf_pulse pulse)]
    rfl
  · rw [exec_eventControlWrite, State.writeEventControl,
      EventUnit.writeControl_toLevel (u := s.events) pulse (interruptModeOf_level level), asserted_eq]
    rfl
  · have keeps : s.events.interruptMode = interruptModeOf v := by
      cases mode : v.getLsbD 1 with
      | true => exact (same.2 mode).trans (interruptModeOf_pulse mode).symm
      | false =>
        rw [interruptModeOf_level mode]
        cases now : s.events.interruptMode with
        | level => rfl
        | pulse => exact absurd ((same.1 now).symm.trans mode) (by decide)
    rw [exec_eventControlWrite, State.writeEventControl, EventUnit.writeControl_same keeps]
    rfl
  · rw [State.settle, EventUnit.settle_level level, asserted_eq]
  · rw [State.settle, EventUnit.settle_pulse_idle pulse idle, if_neg owed.ne']
  · rw [State.settle, EventUnit.settle_pulse_idle pulse idle, if_pos none_owed]
  · rw [exec_pulseEnd, EventUnit.endPulse_inPulse phase]
  · rw [exec_gapEnd, EventUnit.endGap_inGap phase pulse, if_neg owed.ne']
  · rw [exec_gapEnd, EventUnit.endGap_inGap phase pulse, if_pos none_owed]

/-! ## O52: the fault record -/

/-- Settles O52: an offer is captured or marks more, and a release clears the two marks alone. -/
theorem faultRecordCapturesAndReleases : Obligations.FaultRecordCapturesAndReleases := by
  intro s o v
  refine ⟨fun empty => ?_, fun full => ?_, ?_⟩
  · have captured : s.events.offer o =
        ({ s.events with fault := { s.events.fault with valid := true, fields := o } } : EventUnit).raise Flag.accessFault :=
      if_neg (by rw [empty]; exact Bool.false_ne_true)
    refine ⟨congrArg s.setEvents captured, ?_⟩
    rw [State.offer_events, captured]
    exact EventUnit.isSet_raise_self _ _ (by decide) (by decide)
  · exact congrArg s.setEvents (if_pos full)
  · rw [exec_faultRelease]
    rfl

/-! ## O60: the laws at reset -/

theorem State.postingUnit_reset (i : SlotId) : State.reset.postingUnit i = PostingUnit.initial := Quad.get_all _ _

theorem State.sequencer_reset (i : SlotId) : State.reset.sequencer i = Sequencer.initial := Quad.get_all _ _

theorem State.channel_reset (c : ChannelId) : State.reset.channel c = Channel.initial := Quad.get_all _ _

theorem State.memoryRecord_reset (c : ChannelId) : State.reset.memoryRecord c = none := Quad.get_all _ _

theorem State.slotLaw_reset : State.reset.SlotLaw := fun i => by
  rw [State.slot_reset]
  decide

/-- The table at reset is FREE throughout (R41, R62). -/
theorem State.tableLaw_reset : State.reset.TableLaw := by
  simp only [State.TableLaw, State.entry_reset]
  exact ⟨fun _ => by decide, fun _ _ _ => rfl⟩

/-- At reset nothing is in flight and no entry is in use (R46, R50, R51). -/
theorem State.coherent_reset : State.reset.Coherent := by
  refine ⟨State.slotLaw_reset, fun h in_use => ?_, fun h => ?_, fun i h named => ?_⟩
  · rw [State.entry_reset] at in_use
    exact absurd in_use (by decide)
  · rw [State.entry_reset, State.postingUnit_reset, PostingUnit.naming_initial]
    decide
  · rw [State.postingUnit_reset, PostingUnit.naming_initial] at named
    exact absurd rfl named

theorem State.postingLaw_reset : State.reset.PostingLaw := fun i => by
  rw [State.postingUnit_reset, State.sequencer_reset]
  exact PostingUnit.Agrees.initial

theorem State.channelLaws_reset : State.reset.ChannelLaws :=
  State.channelLaws_initial State.channel_reset State.memoryRecord_reset fun i => by
    rw [State.sequencer_reset]
    rfl

/-- Settles O60: every law holds of the reset state. -/
theorem lawsHoldAtReset : Obligations.LawsHoldAtReset :=
  ⟨EventUnit.outputLaw_initial, State.slotLaw_reset, State.tableLaw_reset, State.coherent_reset, State.postingLaw_reset,
    State.channelLaws_reset⟩

end Sys2Proof.Machine
